-- ==== Sys2Proof/Word.lean ====
section
/-! DEFINITION. The word type of the engine: one byte (spec/00_scope.md R7 BYTE_W, R9; spec/20_memory.md R67: nothing wider
than a byte is ever transferred or stored). -/

namespace Sys2Proof

/-- A byte: data byte, instruction byte, response, fuse value or signature byte (R7, R9). Always unsigned. -/
abbrev Byte := BitVec 8

/-- The 16-bit command word `CW = i ++ d`, a notation of the spec only (R94): nothing 16 bits wide exists in the hardware. -/
abbrev CommandWord := BitVec 16

end Sys2Proof
end

