-- ==== Sys2Proof/Config.lean ====
section
/-! DEFINITION. What is fixed for one engine and never changed by it (spec/00_scope.md R7, spec/10_state.md R37), and the two
free values: what a read of SDO returns and whether Start is presented. -/

namespace Sys2Proof

/-- The three signature bytes, index 0 first (R64, D11). -/
structure Signature where
  b0 : Byte
  b1 : Byte
  b2 : Byte
  deriving DecidableEq, Repr

/-- The all-zero signature, which ends the device table (R61, R62, R99 (e)). -/
def Signature.sentinel : Signature := ⟨0x00, 0x00, 0x00⟩

/-- A Target Device Descriptor, fields in the source's order (R61, R103). -/
structure Descriptor where
  sig  : Signature
  low  : Byte
  high : Byte
  ext  : Byte
  deriving DecidableEq, Repr

/-- The parameters of the step relation (R7, R37). Times are in nanoseconds. -/
structure Params where
  /-- `DEVICE_TABLE`: real entries in declaration order; the end of the list is the sentinel (R62, D17). -/
  deviceTable : List Descriptor
  /-- `POLL_LIMIT`: `none` for this hardware; `some n` selects the bounded variant (R7, R133, R134). -/
  pollLimit : Option Nat
  /-- `T_SCI_HIGH`. -/
  tSciHigh : Nat
  /-- `T_VCC_TO_HV`. -/
  tVccToHv : Nat
  /-- `T_HV_HOLD`. -/
  tHvHold : Nat
  /-- `T_ENTRY`. -/
  tEntry : Nat
  /-- `T_DOWN`. -/
  tDown : Nat
  deriving DecidableEq, Repr

/-- The one disclosed table entry (R63). -/
def Config.attiny25 : Descriptor := ⟨⟨0x1E, 0x91, 0x08⟩, 0x62, 0xDF, 0x00⟩

/-- The spec's own defaults (spec/92_eei_decisions.md section 1, D14, D21): the one-entry table, the unbounded poll, SCI high
for 1 us, the other waits at their minimums. -/
def Config.defaults : Params :=
  { deviceTable := [Config.attiny25]
    pollLimit := none
    tSciHigh := 1000
    tVccToHv := 20000
    tHvHold := 10000
    tEntry := 300000
    tDown := 10000 }

/-- FREE VALUE (D20, U4; log entry 5): what the environment answers to the k-th read of SDO. No body: nothing constrains it. -/
opaque Config.sdoDraw : Nat → Bool

/-- FREE VALUE (R190; log entry 6): whether the collaborator presents Start at the k-th look. No body: nothing constrains it. -/
opaque Config.startDraw : Nat → Bool

end Sys2Proof
end

