-- ==== Sys2Proof/Syntax.lean ====
section
/-! DEFINITION. The operations of spec/opcode_table.json, one constructor a row, in the table's order. -/

namespace Sys2Proof

/-- The fuse kinds (spec/00_scope.md R7, spec/20_memory.md R65): low (L), high (H), extended (E). -/
inductive Kind where
  | low
  | high
  | ext
  deriving DecidableEq, Repr

/-- The command last loaded by a frame with `i = 0x4C` (spec/30_encoding.md R98). The engine keeps no such register: it belongs
to whoever reads a frame back, because a frame's bits alone do not name its role. -/
inductive LoadedCommand where
  /-- Data 0x00, or no such frame yet. -/
  | idle
  /-- Data 0x08: signature read. -/
  | signature
  /-- Data 0x40: fuse write. -/
  | writeFuse
  /-- Data 0x04: fuse read. -/
  | readFuse
  deriving DecidableEq, Repr

/-- The operations of the engine. Frame roles (R95), generic operations (R130 to R133), bus sequences (R97), session steps (R190 to R200). -/
inductive Instr where
  /-- LDCMD.SIG (R95, R150). -/
  | ldcmdSig
  /-- LDADDR, signature index `n` (R95); 3 is never issued (R99 (a)). -/
  | ldaddr (n : BitVec 2)
  /-- SIGSETUP (R95, C1). -/
  | sigsetup
  /-- SIGREAD (R95, C1). -/
  | sigread
  /-- LDCMD.WF (R95, R170). -/
  | ldcmdWf
  /-- LDDATA, fuse value `v` (R95, R170). -/
  | lddata (v : Byte)
  /-- WF.L.A (R95, R171). -/
  | wfLA
  /-- WF.L.B (R95, R171). -/
  | wfLB
  /-- WF.H.A (R95, R172). -/
  | wfHA
  /-- WF.H.B (R95, R172). -/
  | wfHB
  /-- WF.E.A (R95, R173). -/
  | wfEA
  /-- WF.E.B (R95, R173). -/
  | wfEB
  /-- LDCMD.NOP (R95, R170). -/
  | ldcmdNop
  /-- LDCMD.RF (R95, R174). -/
  | ldcmdRf
  /-- RF.L.A (R95, R175). -/
  | rfLA
  /-- RF.L.B (R95, R175). -/
  | rfLB
  /-- RF.H.A (R95, R176). -/
  | rfHA
  /-- RF.H.B (R95, R176). -/
  | rfHB
  /-- RF.E.A (R95, R177). -/
  | rfEA
  /-- RF.E.B (R95, R177). -/
  | rfEB
  /-- PULSE (R130). -/
  | pulse
  /-- XFER, data byte `d`, instruction byte `i` (R131). -/
  | xfer (d i : Byte)
  /-- POLL (R133, R134). -/
  | poll
  /-- RDSIG, signature index `n` (R150); only 0, 1, 2 are in the contract. -/
  | rdsig (n : Byte)
  /-- MATCH (R151). -/
  | matchDevice
  /-- WRFUSE.L (R171). -/
  | wrfuseL (v : Byte)
  /-- WRFUSE.H (R172). -/
  | wrfuseH (v : Byte)
  /-- WRFUSE.E (R173). -/
  | wrfuseE (v : Byte)
  /-- RDFUSE.L (R175). -/
  | rdfuseL
  /-- RDFUSE.H (R176). -/
  | rdfuseH
  /-- RDFUSE.E (R177). -/
  | rdfuseE
  /-- VERIFY.L (R179). -/
  | verifyL (v : Byte)
  /-- VERIFY.H (R180). -/
  | verifyH (v : Byte)
  /-- VERIFY.E (R181). -/
  | verifyE (v : Byte)
  /-- START (R190). -/
  | start
  /-- S1: lines to rest, target unpowered (R191). -/
  | s1
  /-- S2: apply VCC (R192). -/
  | s2
  /-- S3: apply the high-voltage reset (R193). -/
  | s3
  /-- S4: hold (R194). -/
  | s4
  /-- S5: release SDO (R195). -/
  | s5
  /-- S6: wait before the first frame (R196). -/
  | s6
  /-- S7, also called OPERATE (R197). -/
  | s7
  /-- S8: teardown (R199). -/
  | s8
  /-- S9: back to Idle, outcome published (R200). -/
  | s9
  deriving DecidableEq, Repr

end Sys2Proof
end

