-- ==== Sys2Proof/WellFormed.lean ====
section
/-! DEFINITION. Which operations and which configurations the spec's contracts admit (spec/30_encoding.md R99,
spec/70_reset_and_hazards.md R254 and R266). The engine itself checks no configuration (R254). -/

namespace Sys2Proof

/-- An operation within its contract: the signature index of LDADDR and RDSIG is 0, 1 or 2 (R99 (a), D19). -/
def Instr.wellFormed : Instr → Bool
  | .ldaddr n => decide (n.toNat ≤ 2)
  | .rdsig n => decide (n.toNat ≤ 2)
  | _ => true

/-- The configuration a session relies on (R254): no real entry has the sentinel's signature, and signatures are unique. -/
def Params.tableWellFormed (p : Params) : Bool :=
  p.deviceTable.all (fun e => e.sig != Signature.sentinel) && decide (p.deviceTable.map Descriptor.sig).Nodup

/-- `POLL_LIMIT = some n` needs n at least 1 (R134). -/
def Params.limitWellFormed (p : Params) : Bool :=
  match p.pollLimit with
  | none => true
  | some n => decide (1 ≤ n)

/-- The waits are at least the minimums of R266, and the wait before the high voltage lies in the named window (C5). -/
def Params.timesWellFormed (p : Params) : Bool :=
  decide (220 ≤ p.tSciHigh ∧ 20000 ≤ p.tVccToHv ∧ p.tVccToHv ≤ 60000 ∧ 10000 ≤ p.tHvHold ∧ 300000 ≤ p.tEntry ∧ 10000 ≤ p.tDown)

/-- A legal configuration (R254, R134, R266). -/
def Params.wellFormed (p : Params) : Bool :=
  p.tableWellFormed && p.limitWellFormed && p.timesWellFormed

end Sys2Proof
end

