-- ==== Sys2Proof/Decode.lean ====
section
/-! DEFINITION. Reading frames back. The engine has no decoder (spec/30_encoding.md R99): it emits. The decoder here is the trace
reader of R98, which must parse sequences: a frame's role is its two bytes and the command loaded before it. After it stands the
encoder, from the tables of R95 to R97, and the 11-slot line patterns of R90 to R94. -/

namespace Sys2Proof

/-- Why a frame or a slot pattern is refused, by name. -/
inductive DecodeError where
  /-- LDADDR with index 3, which is never issued (R99 (a)). -/
  | reservedIndex
  /-- A line pattern that is not 11 slots, or whose start slot or a stop slot is not 0 (R90). -/
  | badFraming
  deriving DecidableEq, Repr

/-- The instruction byte of a command word, bits 15 to 8 (R94). -/
def insByte (cw : CommandWord) : Byte := cw.extractLsb' 8 8

/-- The data byte of a command word, bits 7 to 0 (R94). -/
def dataByte (cw : CommandWord) : Byte := cw.extractLsb' 0 8

/-- The command word of a frame, `i ++ d` (R94). -/
def commandWord (d i : Byte) : CommandWord := i ++ d

/-- What a row of the frame table asks of the data byte. -/
inductive DataPattern where
  /-- Exactly this byte. -/
  | exactly (d : Byte)
  /-- A two-bit signature index, the six bits above it 0 (the table's mask 0xFFFC). -/
  | index
  /-- Any byte: a fuse value. -/
  | value
  deriving DecidableEq, Repr

/-- Does the data byte fit the pattern? -/
def DataPattern.fits : DataPattern → Byte → Bool
  | .exactly d, x => x == d
  | .index, x => x.extractLsb' 2 6 == 0#6
  | .value, _ => true

/-- A row of the frame table: the loaded command it needs (`none`: any), its instruction byte and its data pattern. -/
structure FrameRow where
  needs : Option LoadedCommand
  ins   : Byte
  data  : DataPattern
  deriving DecidableEq, Repr

/-- Does a frame fit the row, under the command loaded before it? -/
def FrameRow.fits (r : FrameRow) (cmd : LoadedCommand) (d i : Byte) : Bool :=
  (r.needs == none || r.needs == some cmd) && i == r.ins && r.data.fits d

/-- The frame table of R95, each row with the role it stands for when its data byte is `d`. -/
def frameTable (d : Byte) : List (FrameRow × Instr) :=
  [ (⟨none, 0x4C, .exactly 0x08⟩, .ldcmdSig),
    (⟨some .signature, 0x0C, .index⟩, .ldaddr (d.extractLsb' 0 2)),
    (⟨some .signature, 0x68, .exactly 0x00⟩, .sigsetup),
    (⟨some .signature, 0x6C, .exactly 0x00⟩, .sigread),
    (⟨none, 0x4C, .exactly 0x40⟩, .ldcmdWf),
    (⟨some .writeFuse, 0x2C, .value⟩, .lddata d),
    (⟨some .writeFuse, 0x64, .exactly 0x00⟩, .wfLA),
    (⟨some .writeFuse, 0x6C, .exactly 0x00⟩, .wfLB),
    (⟨some .writeFuse, 0x74, .exactly 0x00⟩, .wfHA),
    (⟨some .writeFuse, 0x7C, .exactly 0x00⟩, .wfHB),
    (⟨some .writeFuse, 0x66, .exactly 0x00⟩, .wfEA),
    (⟨some .writeFuse, 0x6E, .exactly 0x00⟩, .wfEB),
    (⟨none, 0x4C, .exactly 0x00⟩, .ldcmdNop),
    (⟨none, 0x4C, .exactly 0x04⟩, .ldcmdRf),
    (⟨some .readFuse, 0x68, .exactly 0x00⟩, .rfLA),
    (⟨some .readFuse, 0x6C, .exactly 0x00⟩, .rfLB),
    (⟨some .readFuse, 0x7A, .exactly 0x00⟩, .rfHA),
    (⟨some .readFuse, 0x7E, .exactly 0x00⟩, .rfHB),
    (⟨some .readFuse, 0x6A, .exactly 0x00⟩, .rfEA),
    (⟨some .readFuse, 0x6E, .exactly 0x00⟩, .rfEB) ]

/-- The operation of a frame: the first row it fits, else the table's generic row XFER, whose mask is 0 (R131). -/
def frameRole (cmd : LoadedCommand) (d i : Byte) : Instr :=
  match (frameTable d).find? (fun r => r.1.fits cmd d i) with
  | some r => r.2
  | none => .xfer d i

/-- Read one command word back, under the command loaded before it (R98). Total; the reserved index is rejected by name. -/
def decode (cmd : LoadedCommand) (cw : CommandWord) : Except DecodeError Instr :=
  if (frameRole cmd (dataByte cw) (insByte cw)).wellFormed then .ok (frameRole cmd (dataByte cw) (insByte cw))
  else .error .reservedIndex

/-- The command loaded after an operation's frame (R98): the four command frames of R95's table (`i = 0x4C` with data 08, 40, 04 or 00) load
one. DESIGN CHOICE (log entry 14): a frame with `i = 0x4C` and other data is never sent (R99 (c)) and R98 names no command for it; it reads
as XFER, and the command loaded before it stays. -/
def loadedAfter (cmd : LoadedCommand) : Instr → LoadedCommand
  | .ldcmdSig => .signature
  | .ldcmdWf => .writeFuse
  | .ldcmdRf => .readFuse
  | .ldcmdNop => .idle
  | _ => cmd

/-- Read a sequence of command words back, threading the loaded command (R98). -/
def decodeFrames : LoadedCommand → List CommandWord → Except DecodeError (List Instr)
  | _, [] => .ok []
  | cmd, cw :: rest =>
    match decode cmd cw with
    | .error e => .error e
    | .ok i =>
      match decodeFrames (loadedAfter cmd i) rest with
      | .error e => .error e
      | .ok is => .ok (i :: is)

/-- The loaded command under which a word read alone names a role of the table: the first of `idle`, `signature`, `writeFuse`,
`readFuse` in which it fits a row that needs that command. Words that several roles share (R98) so read as the table's first. -/
def standaloneCommand (cw : CommandWord) : LoadedCommand :=
  match ((frameTable (dataByte cw)).filterMap (fun r =>
      match r.1.needs with
      | none => none
      | some c => if r.1.fits c (dataByte cw) (insByte cw) then some c else none)).head? with
  | some c => c
  | none => .idle

/-- The host's question: the instruction read from the low 16 bits, no bit above them set (`nbits` is 16 for every frame row). -/
def decodeTableWord (nbits w : Nat) : Option Instr :=
  if nbits ≤ 16 ∧ w < 65536 then
    match decode (standaloneCommand (BitVec.ofNat 16 w)) (BitVec.ofNat 16 w) with
    | .ok i => some i
    | .error _ => none
  else none

/-! ### The encoder (R95, R97) -/

/-- The data byte and the instruction byte of an operation that is one frame (R95, R131). -/
def frameBytes : Instr → Option (Byte × Byte)
  | .ldcmdSig => some (0x08, 0x4C)
  | .ldaddr n => some (n.setWidth 8, 0x0C)
  | .sigsetup => some (0x00, 0x68)
  | .sigread => some (0x00, 0x6C)
  | .ldcmdWf => some (0x40, 0x4C)
  | .lddata v => some (v, 0x2C)
  | .wfLA => some (0x00, 0x64)
  | .wfLB => some (0x00, 0x6C)
  | .wfHA => some (0x00, 0x74)
  | .wfHB => some (0x00, 0x7C)
  | .wfEA => some (0x00, 0x66)
  | .wfEB => some (0x00, 0x6E)
  | .ldcmdNop => some (0x00, 0x4C)
  | .ldcmdRf => some (0x04, 0x4C)
  | .rfLA => some (0x00, 0x68)
  | .rfLB => some (0x00, 0x6C)
  | .rfHA => some (0x00, 0x7A)
  | .rfHB => some (0x00, 0x7E)
  | .rfEA => some (0x00, 0x6A)
  | .rfEB => some (0x00, 0x6E)
  | .xfer d i => some (d, i)
  | .pulse => none
  | .poll => none
  | .rdsig _ => none
  | .matchDevice => none
  | .wrfuseL _ => none
  | .wrfuseH _ => none
  | .wrfuseE _ => none
  | .rdfuseL => none
  | .rdfuseH => none
  | .rdfuseE => none
  | .verifyL _ => none
  | .verifyH _ => none
  | .verifyE _ => none
  | .start => none
  | .s1 => none
  | .s2 => none
  | .s3 => none
  | .s4 => none
  | .s5 => none
  | .s6 => none
  | .s7 => none
  | .s8 => none
  | .s9 => none

/-- The loaded command under which a role's frame is sent (the table's "context" column, R98). -/
def roleCommand : Instr → LoadedCommand
  | .ldaddr _ => .signature
  | .sigsetup => .signature
  | .sigread => .signature
  | .lddata _ => .writeFuse
  | .wfLA => .writeFuse
  | .wfLB => .writeFuse
  | .wfHA => .writeFuse
  | .wfHB => .writeFuse
  | .wfEA => .writeFuse
  | .wfEB => .writeFuse
  | .rfLA => .readFuse
  | .rfLB => .readFuse
  | .rfHA => .readFuse
  | .rfHB => .readFuse
  | .rfEA => .readFuse
  | .rfEB => .readFuse
  | _ => .idle

/-- The command word of an operation that is one frame (R94, R95). -/
def frameWord (i : Instr) : Option CommandWord := (frameBytes i).map (fun p => commandWord p.1 p.2)

/-- What a bus operation puts on the bus, in order: frames and polls (R97). -/
inductive BusItem where
  /-- One frame, by its command word. -/
  | frame (cw : CommandWord)
  /-- One POLL. -/
  | poll
  deriving DecidableEq, Repr

/-- The per-kind instruction bytes (R96): `WA(k)`. -/
def Kind.writeA : Kind → Byte
  | .low => 0x64
  | .high => 0x74
  | .ext => 0x66

/-- The per-kind instruction bytes (R96): `WB(k)`. -/
def Kind.writeB : Kind → Byte
  | .low => 0x6C
  | .high => 0x7C
  | .ext => 0x6E

/-- The per-kind instruction bytes (R96): `RA(k)`. -/
def Kind.readA : Kind → Byte
  | .low => 0x68
  | .high => 0x7A
  | .ext => 0x6A

/-- The per-kind instruction bytes (R96): `RB(k)`. -/
def Kind.readB : Kind → Byte
  | .low => 0x6C
  | .high => 0x7E
  | .ext => 0x6E

/-- The bus sequence of a fuse write (R97). -/
def writeSequence (k : Kind) (v : Byte) : List BusItem :=
  [.frame (commandWord 0x40 0x4C), .frame (commandWord v 0x2C), .frame (commandWord 0x00 k.writeA),
   .frame (commandWord 0x00 k.writeB), .poll, .frame (commandWord 0x00 0x4C), .poll]

/-- The bus sequence of a fuse read (R97). -/
def readSequence (k : Kind) : List BusItem :=
  [.frame (commandWord 0x04 0x4C), .frame (commandWord 0x00 k.readA), .frame (commandWord 0x00 k.readB)]

/-- The encoding of an operation as the table gives it: what it puts on the bus, fixed by its operands alone (R95, R97). PULSE,
MATCH, START and the session steps have no command words; what they do is on the lines or depends on the responses. -/
def encode : Instr → Option (List BusItem)
  | .poll => some [.poll]
  | .rdsig n => some [.frame (commandWord 0x08 0x4C), .frame (commandWord n 0x0C), .frame (commandWord 0x00 0x68),
      .frame (commandWord 0x00 0x6C)]
  | .wrfuseL v => some (writeSequence .low v)
  | .wrfuseH v => some (writeSequence .high v)
  | .wrfuseE v => some (writeSequence .ext v)
  | .rdfuseL => some (readSequence .low)
  | .rdfuseH => some (readSequence .high)
  | .rdfuseE => some (readSequence .ext)
  | .verifyL v => some (writeSequence .low v ++ readSequence .low)
  | .verifyH v => some (writeSequence .high v ++ readSequence .high)
  | .verifyE v => some (writeSequence .ext v ++ readSequence .ext)
  | i => (frameWord i).map (fun cw => [.frame cw])

/-! ### Reading a whole bus operation back (R98: sequences, not single frames) -/

/-- One POLL or one frame, read back as a leaf operation. -/
def decodeItem (cmd : LoadedCommand) : BusItem → Except DecodeError Instr
  | .poll => .ok .poll
  | .frame cw => decode cmd cw

/-- The leaf operations of a bus sequence, threading the loaded command (R98). -/
def decodeItems : LoadedCommand → List BusItem → Except DecodeError (List Instr)
  | _, [] => .ok []
  | cmd, b :: rest =>
    match decodeItem cmd b with
    | .error e => .error e
    | .ok i =>
      match decodeItems (loadedAfter cmd i) rest with
      | .error e => .error e
      | .ok is => .ok (i :: is)

/-- The operation that a whole sequence of leaf operations is (R97), where it is one. -/
def groupLeaves : List Instr → Option Instr
  | [i] => some i
  | [.ldcmdSig, .ldaddr n, .sigsetup, .sigread] => some (.rdsig (n.setWidth 8))
  | [.ldcmdWf, .lddata v, .wfLA, .wfLB, .poll, .ldcmdNop, .poll] => some (.wrfuseL v)
  | [.ldcmdWf, .lddata v, .wfHA, .wfHB, .poll, .ldcmdNop, .poll] => some (.wrfuseH v)
  | [.ldcmdWf, .lddata v, .wfEA, .wfEB, .poll, .ldcmdNop, .poll] => some (.wrfuseE v)
  | [.ldcmdRf, .rfLA, .rfLB] => some .rdfuseL
  | [.ldcmdRf, .rfHA, .rfHB] => some .rdfuseH
  | [.ldcmdRf, .rfEA, .rfEB] => some .rdfuseE
  | [.ldcmdWf, .lddata v, .wfLA, .wfLB, .poll, .ldcmdNop, .poll, .ldcmdRf, .rfLA, .rfLB] => some (.verifyL v)
  | [.ldcmdWf, .lddata v, .wfHA, .wfHB, .poll, .ldcmdNop, .poll, .ldcmdRf, .rfHA, .rfHB] => some (.verifyH v)
  | [.ldcmdWf, .lddata v, .wfEA, .wfEB, .poll, .ldcmdNop, .poll, .ldcmdRf, .rfEA, .rfEB] => some (.verifyE v)
  | _ => none

/-- Read a whole bus sequence back as one operation, under the command loaded before it. -/
def decodeSequence (cmd : LoadedCommand) (items : List BusItem) : Option Instr :=
  match decodeItems cmd items with
  | .ok is => groupLeaves is
  | .error _ => none

/-! ### The line pattern of a frame (R90, R91, R94) -/

/-- The eight bits of a byte, bit 7 first (R66). -/
def bitsMsbFirst (b : Byte) : List Bool :=
  [b.getLsbD 7, b.getLsbD 6, b.getLsbD 5, b.getLsbD 4, b.getLsbD 3, b.getLsbD 2, b.getLsbD 1, b.getLsbD 0]

/-- The 11 levels a byte takes on its line, slot 0 first: a start 0, the eight bits, two stop 0s (R90, R91). -/
def slotPattern (b : Byte) : List Bool := false :: bitsMsbFirst b ++ [false, false]

/-- The byte whose bits, most significant first, are these (R93). -/
def packBits (bits : List Bool) : Byte := bits.foldl (fun acc b => (acc <<< 1) ||| (BitVec.ofBool b).setWidth 8) 0x00

/-- Read an 11-slot line pattern back: the start slot and the two stop slots must be 0 (R90). -/
def readSlots : List Bool → Option Byte
  | [false, b7, b6, b5, b4, b3, b2, b1, b0, false, false] => some (packBits [b7, b6, b5, b4, b3, b2, b1, b0])
  | _ => none

/-- Read one frame back from the levels of SDI and SII in its 11 slots (R91). -/
def decodeSlots (cmd : LoadedCommand) (sdi sii : List Bool) : Except DecodeError Instr :=
  match readSlots sdi, readSlots sii with
  | some d, some i => decode cmd (commandWord d i)
  | _, _ => .error .badFraming

end Sys2Proof
end

