-- ==== Sys2Proof/Machine/State.lean ====
section
/-! DEFINITION. The state of the engine as plain data (spec/10_state.md R20 to R41), the line events it is observed by
(spec/00_scope.md R11), the reasons a step can stop, and the state after reset. -/

namespace Sys2Proof.Machine

/-- The six signal lines (R20). -/
inductive Line where
  | sci
  | sdi
  | sii
  | sdo
  | rst
  | vcc
  deriving DecidableEq, Repr

/-- The direction of a line (R21): `input` is `IN`, `output` is `OUT`. -/
inductive Dir where
  | input
  | output
  deriving DecidableEq, Repr

/-- One value for each of the six lines. -/
structure PerLine (α : Type) where
  sci : α
  sdi : α
  sii : α
  sdo : α
  rst : α
  vcc : α
  deriving DecidableEq, Repr

/-- The twelve line-control bits (R21). A level is `true` for high (R9). -/
structure Lines where
  /-- `DIR[L]`. -/
  dir : PerLine Dir
  /-- `LVL[L]`. -/
  lvl : PerLine Bool
  deriving DecidableEq, Repr

/-- The session state `ST` (R25). In `resetAsserted` the level of RST is 0 (C2). -/
inductive SessionState where
  | idle
  | poweringUp
  | resetAsserted
  | modeEntering
  | operating
  | poweringDown
  deriving DecidableEq, Repr

/-- The session step, S1 to S9, of a sequencer position (R26); `idle` waits for Start. -/
inductive SessionStep where
  | idle
  | s1
  | s2
  | s3
  | s4
  | s5
  | s6
  | s7
  | s8
  | s9
  deriving DecidableEq, Repr

/-- The operation a fuse write belongs to: WRFUSE alone, VERIFY alone, or the VERIFY of session step S7. -/
inductive WriteOwner where
  | write
  | verify
  | operate
  deriving DecidableEq, Repr

/-- Which POLL is in progress (R136): one run alone, or the first (`second = false`) or second one of a fuse write of kind `k`. -/
inductive PollSite where
  | alone
  | fuseWrite (owner : WriteOwner) (k : Kind) (second : Bool)
  deriving DecidableEq, Repr

/-- The operation in progress within a session step (R26): a stretch of the pseudocode that is left only at its end and contains no
POLL, so the phase within it is the number of its next statement. -/
inductive Stage where
  /-- The statements of session step `p` itself (R191 to R196, R199, R200); of S7 those before the scan: `ST`, and MATCH's first two. -/
  | own (p : SessionStep)
  /-- MATCH: the sentinel test of entry `ENT` (R151). -/
  | testEntry
  /-- MATCH: RDSIG(0), RDSIG(1), RDSIG(2), each stored in `SIGB` (R150, R151). -/
  | readEntry
  /-- MATCH: the compare of entry `ENT` (R151, R152). -/
  | compareEntry
  /-- S7: `if FOUND = 1` (R197, R205 (3)). -/
  | testFound
  /-- VERIFY.k of S7: `KIND`, `WVAL`, and WRFUSE.k up to its first POLL (R178, R170). -/
  | strobe (k : Kind)
  /-- WRFUSE.k after its first POLL: the final frame (R170). -/
  | finish (owner : WriteOwner) (k : Kind) (back : SessionStep)
  /-- VERIFY.k after WRFUSE.k: RDFUSE.k, `RVAL`, the compare (R178). -/
  | readBack (owner : WriteOwner) (k : Kind) (back : SessionStep)
  /-- S7: `if DESC.ext != 0x00` (R197, R205 (4)). -/
  | testExt
  /-- S7: the extended-fuse skip (R182). -/
  | skipExt
  /-- S7: no device matched (R197). -/
  | noMatch
  /-- S7: the outcome (R198). -/
  | settle
  deriving DecidableEq, Repr

/-- The sequencer position `SEQ` (R26, D4). Of R26's tuple, `ST` and `SLOT` are registers of their own; the session step, the operation in
progress within it and the phase within that operation are here. -/
inductive Seq where
  /-- A session step is about to begin; `idle` is R26's (`Idle`, none). -/
  | due (p : SessionStep)
  /-- In a stage, before its statement number `n`, counted from 0. -/
  | within (g : Stage) (n : Nat)
  /-- In a POLL, about to sample: what the POLL belongs to, and where the sequencer goes on once an operation run alone has ended. -/
  | polling (site : PollSite) (back : SessionStep)
  /-- A frame put by the host in the place of S7's work (log entry 8), with the command loaded before it. -/
  | placed (cmd : LoadedCommand) (cw : CommandWord)
  deriving DecidableEq, Repr

/-- The failure causes and the value of `FAIL` (R32, R220). -/
inductive Cause where
  | none
  | unknownDevice
  | verifyMismatch
  | targetUnresponsive
  deriving DecidableEq, Repr

/-- The line events, with the two events at the boundary to the collaborator (R11, D1, D2). -/
inductive Event where
  /-- `SetDir(L, d)`. -/
  | setDir (l : Line) (d : Dir)
  /-- `SetLevel(L, v)`. -/
  | setLevel (l : Line) (v : Bool)
  /-- `Set{...}`: several writes as one step (R10, D5). -/
  | setGroup (dirs : List (Line × Dir)) (lvls : List (Line × Bool))
  /-- `ReadLevel(L) = b`. -/
  | readLevel (l : Line) (b : Bool)
  /-- `WaitAtLeast(t)`, in nanoseconds. -/
  | waitAtLeast (t : Nat)
  /-- `Start`, accepted. -/
  | start
  /-- `Done(outcome)`. -/
  | done (outcome : Bool)
  deriving DecidableEq, Repr

/-- The engine. The last five fields are the model's own: inputs still to come and the observation (log entries 5, 6, 7). -/
structure State where
  /-- The parameters of the step relation (R37), which no step changes (log entry 3). -/
  params : Params
  /-- `DIR` and `LVL` (R21). -/
  lines : Lines
  /-- `ST` (R25). -/
  st : SessionState
  /-- `SEQ` (R26). -/
  seq : Seq
  /-- `DSR` (R27). -/
  dsr : Byte
  /-- `ISR` (R27). -/
  isr : Byte
  /-- `RSR` (R27). -/
  rsr : Byte
  /-- `SLOT` (R27). -/
  slot : BitVec 4
  /-- `ENT` (R28, R137 (g)). -/
  ent : Nat
  /-- `SIGB[0..2]` (R28). -/
  sigb : Signature
  /-- `FOUND` (R28, R30). -/
  found : Bool
  /-- `DESC` (R28). -/
  desc : Descriptor
  /-- `KIND` (R29). -/
  kind : Kind
  /-- `WVAL` (R29). -/
  wval : Byte
  /-- `RVAL` (R29). -/
  rval : Byte
  /-- `OKL` (R30). -/
  okl : Bool
  /-- `OKH` (R30). -/
  okh : Bool
  /-- `OKE` (R30). -/
  oke : Bool
  /-- `OUTCOME` (R30, R31). -/
  outcome : Bool
  /-- `DONE` (R30). -/
  done : Bool
  /-- `FAIL` (R32). -/
  fail : Cause
  /-- `PCNT` (R33). -/
  pcnt : Nat
  /-- The environment's answers to the next reads of SDO; past its end an answer is a free value. -/
  sdoIn : List Bool
  /-- How many reads of SDO have been made. -/
  sdoDraws : Nat
  /-- Whether Start is presented at the next looks in Idle; past its end a look sees a free value. -/
  startIn : List Bool
  /-- How many looks for Start have been made. -/
  startDraws : Nat
  /-- The line events so far, newest first (R11). -/
  trace : List Event
  deriving DecidableEq, Repr

/-- The machine never stops with a fault: the three failure causes end in the outcome or in an endless POLL, and nothing else
the engine does can fail (R220, R224). So this type has no constructor. -/
inductive Fault where
  deriving DecidableEq, Repr

/-- The situations the model gives no step, by name. -/
inductive Refusal where
  /-- An instruction of the table without a meaning yet, raised by `exec` alone. No arm raises it. Safe. -/
  | notModelled (mnemonic : String)
  /-- A read of SDO while the engine drives it (U2, D18, R261). Raised by frames, POLL and what contains them. Safe. -/
  | sdoDriven
  /-- PULSE alone without its precondition (U1, R130, R260). Raised by PULSE. Safe. -/
  | pulseOutsideFrame
  /-- A signature index above 2 (U3, D19, R99 (a)). Raised by RDSIG and LDADDR. Safe. -/
  | signatureIndex
  /-- A frame the host placed that the decoder rejects. Raised by `step` (log entry 8). Safe. -/
  | frameRejected (e : DecodeError)
  deriving DecidableEq, Repr

/-- What a meaning answers. -/
abbrev Result := Host.Outcome State Fault Refusal

/-- After engine reset (R39, R250, D6): `ST = Idle`, `SEQ` = (Idle, none), `DONE = 0`, `FAIL = None`. Every other register is
unspecified by the spec; its value here is the model's choice (log entries 1, 2). The parameters are the spec's defaults (log
entry 3). -/
def State.reset : State :=
  { params := Config.defaults
    lines :=
      { dir := ⟨.input, .input, .input, .input, .input, .input⟩
        lvl := ⟨false, false, false, false, false, false⟩ }
    st := .idle
    seq := .due .idle
    dsr := 0
    isr := 0
    rsr := 0
    slot := 0
    ent := 0
    sigb := ⟨0, 0, 0⟩
    found := false
    desc := ⟨⟨0, 0, 0⟩, 0, 0, 0⟩
    kind := .low
    wval := 0
    rval := 0
    okl := false
    okh := false
    oke := false
    outcome := false
    done := false
    fail := .none
    pcnt := 0
    sdoIn := []
    sdoDraws := 0
    startIn := []
    startDraws := 0
    trace := [] }

end Sys2Proof.Machine
end

