-- ==== Sys2Proof/Machine/Ops.lean ====
section
/-! DEFINITION. The named operations over the lines and registers: the line primitives (spec/00_scope.md R10), reading SDO, looking
for Start, taking a failure cause (spec/60_exceptions.md R226) and returning from one (R229), engine reset in mid-session
(spec/70_reset_and_hazards.md R252), and the read of the device table (spec/20_memory.md R62). -/

namespace Sys2Proof.Machine

/-! ### The lines -/

/-- The value of one line. -/
def PerLine.get {α : Type} (m : PerLine α) : Line → α
  | .sci => m.sci
  | .sdi => m.sdi
  | .sii => m.sii
  | .sdo => m.sdo
  | .rst => m.rst
  | .vcc => m.vcc

/-- The map with one line's value replaced. -/
def PerLine.set {α : Type} (m : PerLine α) (l : Line) (v : α) : PerLine α :=
  match l with
  | .sci => { m with sci := v }
  | .sdi => { m with sdi := v }
  | .sii => { m with sii := v }
  | .sdo => { m with sdo := v }
  | .rst => { m with rst := v }
  | .vcc => { m with vcc := v }

/-- The map with several lines' values replaced, in the order listed. -/
def PerLine.setAll {α : Type} (m : PerLine α) (ws : List (Line × α)) : PerLine α :=
  ws.foldl (fun acc w => acc.set w.1 w.2) m

/-- What the pad of a line shows (R21): the level while the engine drives it, `none` while it does not. A level written while the
line is an input is kept and has no effect on the pad (D28). -/
def Lines.pad (ls : Lines) (l : Line) : Option Bool :=
  match ls.dir.get l with
  | .output => some (ls.lvl.get l)
  | .input => none

/-- What a line event does to the twelve line-control bits (R10, R21). Reads, waits and the two boundary events change none. -/
def Event.apply (e : Event) (ls : Lines) : Lines :=
  match e with
  | .setDir l d => { ls with dir := ls.dir.set l d }
  | .setLevel l v => { ls with lvl := ls.lvl.set l v }
  | .setGroup dirs lvls => { ls with dir := ls.dir.setAll dirs, lvl := ls.lvl.setAll lvls }
  | .readLevel _ _ => ls
  | .waitAtLeast _ => ls
  | .start => ls
  | .done _ => ls

/-- One line event happens: the only way the line-control bits are written (R21, R73). DESIGN CHOICE (log entry 7): every event enters the
trace, a write also where it leaves the level or the direction as it was, which R131 corner case (c) leaves to the model. -/
def emit (e : Event) (s : State) : State :=
  { s with lines := e.apply s.lines, trace := e :: s.trace }

/-- `SetDir(L, d)` (R10). -/
def setDir (l : Line) (d : Dir) (s : State) : State := emit (.setDir l d) s

/-- `SetLevel(L, v)` (R10). -/
def setLevel (l : Line) (v : Bool) (s : State) : State := emit (.setLevel l v) s

/-- `Set{...}` (R10, D5). -/
def setGroup (dirs : List (Line × Dir)) (lvls : List (Line × Bool)) (s : State) : State := emit (.setGroup dirs lvls) s

/-- `WaitAtLeast(t)` (R10). -/
def waitAtLeast (t : Nat) (s : State) : State := emit (.waitAtLeast t) s

/-! ### Inputs from the environment -/

/-- The level the environment presents at the k-th read of SDO from here (D20): the answer it has lined up, else a free value. -/
def State.sample (s : State) (k : Nat) : Bool := (s.sdoIn[k]?).getD (Config.sdoDraw (s.sdoDraws + k))

/-- `ReadLevel(SDO)` (R10, R70 (b)): the answer is `s.sample 0`; nothing else of the engine changes. -/
def readSdo (s : State) : State :=
  { emit (.readLevel .sdo (s.sample 0)) s with sdoIn := s.sdoIn.drop 1, sdoDraws := s.sdoDraws + 1 }

/-- Run an operation that reads SDO: refused while the engine drives that line (D18, U2, R261). -/
def readingSdo (f : State → State) (s : State) : Result :=
  match s.lines.dir.sdo with
  | .input => .next (f s)
  | .output => .refused .sdoDriven

/-- Does the collaborator present Start at this look (R190)? -/
def State.startPresented (s : State) : Bool := (s.startIn[0]?).getD (Config.startDraw s.startDraws)

/-- One look for Start is over. A Start is looked at only in Idle and is not remembered (R190, R227). -/
def lookForStart (s : State) : State := { s with startIn := s.startIn.drop 1, startDraws := s.startDraws + 1 }

/-! ### Failure causes -/

/-- `raise E` (R226): the first cause of the session is kept (D27); no state is saved, no mode changes, control goes to no vector. -/
def raise (c : Cause) (s : State) : State :=
  match s.fail with
  | .none => { s with fail := c }
  | .unknownDevice => s
  | .verifyMismatch => s
  | .targetUnresponsive => s

/-- TargetUnresponsive in the bounded variant (R134, R223, R226): what was in progress is abandoned, the outcome is 0, on to S8. -/
def abandonSession (s : State) : State := { raise .targetUnresponsive s with outcome := false, seq := .due .s8 }

/-- The last statement of S9 (R200), and so the return from a failure (R229): `DONE <- 1`, event `Done(OUTCOME)` (D8). -/
def publishOutcome (s : State) : State := emit (.done s.outcome) { s with done := true }

/-- Engine reset in the middle of a session (R252, D6): `ST = Idle`, `SEQ` none, `DONE = 0`, `FAIL = None`; the lines stay as they
were. The registers the spec leaves unspecified keep their values here (log entry 9). No step performs it: the source names no
reset input (N1, N2). -/
def engineReset (s : State) : State := { s with st := .idle, seq := .due .idle, done := false, fail := .none }

/-! ### The sequencer -/

/-- `SEQ <- q`, and nothing else (R10, R26). -/
def moveTo (q : Seq) (s : State) : State := { s with seq := q }

/-- The sequencer stands before session step `p`. -/
def goTo (p : SessionStep) (s : State) : State := moveTo (.due p) s

/-- The session step a stage belongs to (R26); of a fuse write run alone, the step that follows it. -/
def Stage.sessionStep : Stage → SessionStep
  | .own p => p
  | .finish .write _ back => back
  | .finish .verify _ back => back
  | .readBack .write _ back => back
  | .readBack .verify _ back => back
  | _ => .s7

/-- Where the sequencer goes on after an operation run alone: the step that was due or in progress, from its beginning. A placed frame
stands for S7's work, so S8 follows (log entries 8, 11). -/
def Seq.back : Seq → SessionStep
  | .due p => p
  | .within g _ => g.sessionStep
  | .polling _ p => p
  | .placed _ _ => .s8

/-! ### The device table -/

/-- `MemRead(TBL, e)` (R62): entry `e`, `none` past the end of the list; no side effect, and it cannot fault. -/
def tableRead (p : Params) (e : Nat) : Option Descriptor := p.deviceTable[e]?

/-- Is this entry the sentinel (R62)? Its three signature bytes are all 0x00, wherever it stands. -/
def isSentinel (e : Descriptor) : Bool := e.sig == Signature.sentinel

/-- Is the scan at the sentinel (R62, R151): past the end of the list, or at an all-zero entry? -/
def atSentinel (s : State) : Bool :=
  match tableRead s.params s.ent with
  | none => true
  | some e => isSentinel e

/-- The signature with the byte of index `n` replaced (R28). -/
def setSignatureByte (g : Signature) (n : Fin 3) (b : Byte) : Signature :=
  match n with
  | 0 => { g with b0 := b }
  | 1 => { g with b1 := b }
  | 2 => { g with b2 := b }

end Sys2Proof.Machine
end

