-- ==== Sys2Proof/Machine/Operands.lean ====
section
/-! DEFINITION. Operand assembly and the byte arithmetic of the engine (spec/30_encoding.md R92, R93, R96;
spec/40_bit_and_frame.md R137). -/

namespace Sys2Proof.Machine

/-- `shl1(v) = (v * 2) mod 256` (R9, R137 (a)): bit 7 is lost, bit 0 becomes 0. -/
def shl1 (v : Byte) : Byte := v <<< 1

/-- `v[7]`, the next bit to go out (R92, R137 (c)). -/
def topBit (v : Byte) : Bool := v.getLsbD 7

/-- `shl1(RSR) | b`: the response bit enters at bit 0 (R93, R137 (b)). -/
def shiftIn (v : Byte) (b : Bool) : Byte := shl1 v ||| (BitVec.ofBool b).setWidth 8

/-- `zext_8` of the signature index (R92, R137 (i)). -/
def zext8 {w : Nat} (n : BitVec w) : Byte := n.setWidth 8

/-- The instruction byte of the first strobe frame, `WA(k)` (R96). -/
def writeByteA : Kind → Byte
  | .low => 0x64
  | .high => 0x74
  | .ext => 0x66

/-- The instruction byte of the second strobe frame, `WB(k)` (R96). -/
def writeByteB : Kind → Byte
  | .low => 0x6C
  | .high => 0x7C
  | .ext => 0x6E

/-- The instruction byte of the addressing frame, `RA(k)` (R96). -/
def readByteA : Kind → Byte
  | .low => 0x68
  | .high => 0x7A
  | .ext => 0x6A

/-- The instruction byte of the data frame, `RB(k)` (R96). -/
def readByteB : Kind → Byte
  | .low => 0x6C
  | .high => 0x7E
  | .ext => 0x6E

/-- The factory default of a kind (R103, R183). -/
def factoryValue (e : Descriptor) : Kind → Byte
  | .low => e.low
  | .high => e.high
  | .ext => e.ext

/-- Does the descriptor say the device has an extended fuse (R182, R99 (d))? -/
def hasExtFuse (e : Descriptor) : Bool := e.ext != 0x00

end Sys2Proof.Machine
end

