-- ==== Sys2Proof/Machine/Flags.lean ====
section
/-! DEFINITION. Every flag the engine computes (spec/10_state.md R30): FOUND, OKL, OKH, OKE, OUTCOME, and DONE by `publishOutcome`. There
are no arithmetic condition codes. -/

namespace Sys2Proof.Machine

/-- `OKk <- ok` (R179 to R181). -/
def setOk (k : Kind) (ok : Bool) (s : State) : State :=
  match k with
  | .low => { s with okl := ok }
  | .high => { s with okh := ok }
  | .ext => { s with oke := ok }

/-- The compare of VERIFY (R178): `ok <- (RVAL == WVAL)`, all eight bits; a difference raises VerifyMismatch and stops nothing (R222). -/
def judge (k : Kind) (s : State) : State :=
  if s.rval = s.wval then setOk k true s else raise .verifyMismatch (setOk k false s)

/-- The compare of MATCH (R151, R152): equality of all 24 bits, no mask, no partial match. -/
def signatureMatches (s : State) (e : Descriptor) : Bool := s.sigb == e.sig

/-- A table entry matched (R151): `DESC <- e`, `FOUND <- 1`. -/
def matched (e : Descriptor) (s : State) : State := { s with desc := e, found := true }

/-- Do the bytes read equal the signature of entry `ENT` (R151)? -/
def entryMatches (s : State) : Bool :=
  match tableRead s.params s.ent with
  | none => false
  | some e => signatureMatches s e

/-- The extended-fuse skip (R182): no frame, `OKE <- 1`. -/
def skipExt (s : State) : State := { s with oke := true }

/-- No device matched (R197, D26): `OKL`, `OKH`, `OKE` are written 0. -/
def clearOks (s : State) : State := { s with okl := false, okh := false, oke := false }

/-- The Session Outcome (R198), written at the end of S7. -/
def settleOutcome (s : State) : State := { s with outcome := s.found && s.okl && s.okh && s.oke }

end Sys2Proof.Machine
end

