-- ==== Sys2Proof/Machine/Statements.lean ====
section
/-! DEFINITION. The statements of the pseudocode of spec/40_bit_and_frame.md to spec/43_session.md. Each is one line event or one internal
assignment group, and takes effect whole before the next begins (D1, R26, R73). Every operation is a list of them: run one by one by the
sequencer, and to the end by the meanings. -/

namespace Sys2Proof.Machine

/-- One statement of the pseudocode. -/
inductive Stmt where
  /-- `DSR <- d ; ISR <- i ; RSR <- 0x00` (R131). -/
  | load (d i : Byte)
  /-- `SLOT <- n` (R131). -/
  | slot (n : Nat)
  /-- `SetLevel(L, v)`. -/
  | level (l : Line) (v : Bool)
  /-- `SetDir(L, d)`. -/
  | direction (l : Line) (d : Dir)
  /-- `Set{...}`: several writes as one step (D5). -/
  | group (dirs : List (Line × Dir)) (lvls : List (Line × Bool))
  /-- `WaitAtLeast(t)`. -/
  | wait (t : Nat)
  /-- `b <- ReadLevel(SDO)` with `RSR <- shl1(RSR) | b` (R131): one step, for no register holds `b` between them (R34; log entry 4). -/
  | sample
  /-- `Set{SDI <- DSR[7], SII <- ISR[7]}` (R131, R135). -/
  | drive
  /-- `DSR <- shl1(DSR) ; ISR <- shl1(ISR)` (R131). -/
  | shift
  /-- `PCNT <- 0`, the start of a POLL in the bounded variant (R134). -/
  | clearCount
  /-- `FOUND <- 0` (R151). -/
  | clearFound
  /-- `ENT <- 0` (R151). -/
  | firstEntry
  /-- The sentinel test of MATCH, with `raise UnknownDevice` (R151). -/
  | testEntry
  /-- `SIGB[n] <- ` the response in RSR (R151). -/
  | keepSignature (n : Fin 3)
  /-- The compare of MATCH, with `DESC <- e ; FOUND <- 1` or `ENT <- ENT + 1` (R151). -/
  | compareEntry
  /-- `KIND <- k ; WVAL <- v` (R178). -/
  | beginVerify (k : Kind) (v : Byte)
  /-- `RVAL <- ` the response in RSR (R178). -/
  | keepReadBack
  /-- The compare of VERIFY, with `OKk <- ok` and `raise VerifyMismatch` (R178 to R181). -/
  | judge (k : Kind)
  /-- An `if` of S7: nothing is written (R205). -/
  | test
  /-- `OKE <- 1` (R182). -/
  | skipExt
  /-- `OKL <- 0 ; OKH <- 0 ; OKE <- 0` (R197). -/
  | clearOks
  /-- `OUTCOME <- FOUND and OKL and OKH and OKE` (R198). -/
  | settle
  /-- `ST <- v`. -/
  | state (v : SessionState)
  /-- `DONE <- 1`, event `Done(OUTCOME)` (R200). -/
  | publish
  deriving DecidableEq, Repr

/-- The byte registers at the start of a frame (R131). -/
def loadFrame (d i : Byte) (s : State) : State := { s with dsr := d, isr := i, rsr := 0x00 }

/-- `SLOT <- n` (R131). -/
def atSlot (n : Nat) (s : State) : State := { s with slot := BitVec.ofNat 4 n }

/-- Step (a) of a data slot (R131, R263): the sample enters RSR. -/
def sampleBit (s : State) : State := { readSdo s with rsr := shiftIn s.rsr (s.sample 0) }

/-- Step (b) of a data slot (R131, R135): SDI and SII take bit 7 of both outgoing registers as one step. -/
def driveBit (s : State) : State := setGroup [] [(.sdi, topBit s.dsr), (.sii, topBit s.isr)] s

/-- Step (d) of a data slot (R131): both outgoing registers shift left. -/
def shiftOut (s : State) : State := { s with dsr := shl1 s.dsr, isr := shl1 s.isr }

/-- The sentinel test (R151): at the sentinel the scan ends with UnknownDevice. -/
def testSentinel (s : State) : State := if atSentinel s then raise .unknownDevice s else s

/-- `SIGB[n] <- RSR` (R151): the response of the last frame is the signature byte (D9). -/
def keepSignatureByte (n : Fin 3) (s : State) : State := { s with sigb := setSignatureByte s.sigb n s.rsr }

/-- The compare of MATCH (R151): a match ends the scan, a difference goes on to the next entry. -/
def compareSignature (s : State) : State :=
  match tableRead s.params s.ent with
  | none => { s with ent := s.ent + 1 }
  | some e => if signatureMatches s e then matched e s else { s with ent := s.ent + 1 }

/-- `KIND <- k ; WVAL <- v` (R178). -/
def beginVerify (k : Kind) (v : Byte) (s : State) : State := { s with kind := k, wval := v }

/-- What a statement does. -/
def Stmt.act : Stmt → State → State
  | .load d i => loadFrame d i
  | .slot n => atSlot n
  | .level l v => setLevel l v
  | .direction l d => setDir l d
  | .group dirs lvls => setGroup dirs lvls
  | .wait t => waitAtLeast t
  | .sample => sampleBit
  | .drive => driveBit
  | .shift => shiftOut
  | .clearCount => fun s => { s with pcnt := 0 }
  | .clearFound => fun s => { s with found := false }
  | .firstEntry => fun s => { s with ent := 0 }
  | .testEntry => testSentinel
  | .keepSignature n => keepSignatureByte n
  | .compareEntry => compareSignature
  | .beginVerify k v => Sys2Proof.Machine.beginVerify k v
  | .keepReadBack => fun s => { s with rval := s.rsr }
  | .judge k => Sys2Proof.Machine.judge k
  | .test => fun s => s
  | .skipExt => Sys2Proof.Machine.skipExt
  | .clearOks => Sys2Proof.Machine.clearOks
  | .settle => settleOutcome
  | .state v => fun s => { s with st := v }
  | .publish => publishOutcome

/-- Does the statement sample SDO? -/
def Stmt.reads : Stmt → Bool
  | .sample => true
  | _ => false

/-- One statement, and the sequencer moves to `q`; a sample is refused while the engine drives SDO (D18). -/
def Stmt.run (c : Stmt) (q : Seq) (s : State) : Result :=
  if c.reads then readingSdo (fun t => moveTo q (c.act t)) s else .next (moveTo q (c.act s))

/-- A list of statements, to its end. -/
def perform (cs : List Stmt) (s : State) : State := cs.foldl (fun t c => c.act t) s

end Sys2Proof.Machine
end

