-- ==== Sys2Proof/Machine/BitFrame.lean ====
section
/-! DEFINITION. PULSE, XFER, the sampling of POLL, and the 20 frame roles (spec/40_bit_and_frame.md, spec/30_encoding.md R95). -/

namespace Sys2Proof.Machine

/-- The statements of PULSE (R130); they touch SCI only (C7). -/
def pulseCode (p : Params) : List Stmt := [.level .sci true, .wait p.tSciHigh, .level .sci false]

/-- The statement that sets SDI and SII together, while SCI is low (R135, D5). -/
def latch (d i : Bool) : Stmt := .group [] [(.sdi, d), (.sii, i)]

/-- The statements of data slot `n` (R131): sample before driving and before the pulse (R263), drive, pulse, shift. -/
def dataSlotCode (p : Params) (n : Nat) : List Stmt := [.slot n, .sample, .drive] ++ pulseCode p ++ [.shift]

/-- The start of a frame and its start slot (R131). -/
def startSlotCode (p : Params) (d i : Byte) : List Stmt := [.load d i, .slot 0, latch false false] ++ pulseCode p

/-- The eight data slots, bit 7 first (R131: `for SLOT <- 1 to 8`). -/
def dataSlotsCode (p : Params) : List Stmt :=
  dataSlotCode p 1 ++ dataSlotCode p 2 ++ dataSlotCode p 3 ++ dataSlotCode p 4 ++ dataSlotCode p 5 ++ dataSlotCode p 6 ++
  dataSlotCode p 7 ++ dataSlotCode p 8

/-- The two stop slots (R131): the lines are set to 0 once, then two pulses. -/
def stopSlotsCode (p : Params) : List Stmt := [latch false false, .slot 9] ++ pulseCode p ++ [.slot 10] ++ pulseCode p

/-- The statements of `XFER(d, i)` (R131): 11 slots. -/
def frameCode (p : Params) (d i : Byte) : List Stmt := startSlotCode p d i ++ (dataSlotsCode p ++ stopSlotsCode p)

/-- Several frames, each a pair of data byte and instruction byte, the first one first. -/
def framesCode (p : Params) (frames : List (Byte × Byte)) : List Stmt := frames.flatMap (fun f => frameCode p f.1 f.2)

/-- `PULSE` (R130): one clock pulse. -/
def pulse (s : State) : State := perform (pulseCode s.params) s

/-- `XFER(d, i)` (R131): one frame of 11 slots; the response is left in RSR. -/
def xfer (d i : Byte) (s : State) : State := perform (frameCode s.params d i) s

/-! ### POLL -/

/-- The start of a POLL: the bounded variant clears its count; the unbounded one keeps none and has no such statement (R33, R134). -/
def pollEntry (p : Params) : List Stmt :=
  match p.pollLimit with
  | none => []
  | some _ => [.clearCount]

/-- A POLL begins. -/
def enterPoll (s : State) : State := perform (pollEntry s.params) s

/-- One sample of a POLL (R133, R134), counted only in the bounded variant. -/
def pollSample (s : State) : State :=
  match s.params.pollLimit with
  | none => readSdo s
  | some _ => { readSdo s with pcnt := s.pcnt + 1 }

/-- Has the bounded POLL taken its last sample (R134: `PCNT = n`)? Never with `POLL_LIMIT = none` (R133). -/
def pollExpired (s : State) : Bool :=
  match s.params.pollLimit with
  | none => false
  | some n => s.pcnt == n

/-- One iteration of the POLL at `site` (R133, R134): on 1 it returns and `ready` follows; on the last 0 of the bounded variant the
session is abandoned; on any other 0 the sequencer stays in the POLL, and the next step samples again. -/
def pollOnce (site : PollSite) (back : SessionStep) (ready : State → State) (s : State) : State :=
  if s.sample 0 then ready (pollSample s)
  else if pollExpired (pollSample s) then abandonSession (pollSample s)
  else moveTo (.polling site back) (pollSample s)

/-- A POLL begins at `site` and takes its first sample. -/
def pollFrom (site : PollSite) (back : SessionStep) (ready : State → State) (s : State) : State :=
  pollOnce site back ready (enterPoll s)

/-! ### The meanings -/

/-- Does the precondition of PULSE hold (R130)? -/
def pulseAllowed (s : State) : Bool := s.lines.dir.sci == .output && !s.lines.lvl.sci

/-- PULSE alone (R130): it carries the precondition, and is refused without it (U1). -/
def execPulse (s : State) : Result :=
  match pulseAllowed s with
  | true => .next (pulse s)
  | false => .refused .pulseOutsideFrame

/-- XFER (R131). -/
def execXfer (d i : Byte) (s : State) : Result := readingSdo (xfer d i) s

/-- LDCMD.SIG (R95, R150 frame 1). -/
def execLdcmdSig (s : State) : Result := readingSdo (xfer 0x08 0x4C) s

/-- LDADDR (R95, R150 frame 2); index 3 is never issued (R99 (a)). -/
def execLdaddr (n : BitVec 2) (s : State) : Result :=
  if n.toNat ≤ 2 then readingSdo (xfer (zext8 n) 0x0C) s else .refused .signatureIndex

/-- SIGSETUP (R95, R150 frame 3, C1). -/
def execSigsetup (s : State) : Result := readingSdo (xfer 0x00 0x68) s

/-- SIGREAD (R95, R150 frame 4, C1): its response is the signature byte. -/
def execSigread (s : State) : Result := readingSdo (xfer 0x00 0x6C) s

/-- LDCMD.WF (R95, R170 frame 1). -/
def execLdcmdWf (s : State) : Result := readingSdo (xfer 0x40 0x4C) s

/-- LDDATA (R95, R170 frame 2). -/
def execLddata (v : Byte) (s : State) : Result := readingSdo (xfer v 0x2C) s

/-- WF.L.A (R95, R171). -/
def execWfLA (s : State) : Result := readingSdo (xfer 0x00 0x64) s

/-- WF.L.B (R95, R171). -/
def execWfLB (s : State) : Result := readingSdo (xfer 0x00 0x6C) s

/-- WF.H.A (R95, R172). -/
def execWfHA (s : State) : Result := readingSdo (xfer 0x00 0x74) s

/-- WF.H.B (R95, R172). -/
def execWfHB (s : State) : Result := readingSdo (xfer 0x00 0x7C) s

/-- WF.E.A (R95, R173). -/
def execWfEA (s : State) : Result := readingSdo (xfer 0x00 0x66) s

/-- WF.E.B (R95, R173). -/
def execWfEB (s : State) : Result := readingSdo (xfer 0x00 0x6E) s

/-- LDCMD.NOP (R95, R170 frame 5). -/
def execLdcmdNop (s : State) : Result := readingSdo (xfer 0x00 0x4C) s

/-- LDCMD.RF (R95, R174 frame 1). -/
def execLdcmdRf (s : State) : Result := readingSdo (xfer 0x04 0x4C) s

/-- RF.L.A (R95, R175). -/
def execRfLA (s : State) : Result := readingSdo (xfer 0x00 0x68) s

/-- RF.L.B (R95, R175): its response is the fuse value. -/
def execRfLB (s : State) : Result := readingSdo (xfer 0x00 0x6C) s

/-- RF.H.A (R95, R176). -/
def execRfHA (s : State) : Result := readingSdo (xfer 0x00 0x7A) s

/-- RF.H.B (R95, R176): its response is the fuse value. -/
def execRfHB (s : State) : Result := readingSdo (xfer 0x00 0x7E) s

/-- RF.E.A (R95, R177). -/
def execRfEA (s : State) : Result := readingSdo (xfer 0x00 0x6A) s

/-- RF.E.B (R95, R177): its response is the fuse value. -/
def execRfEB (s : State) : Result := readingSdo (xfer 0x00 0x6E) s

end Sys2Proof.Machine
end

