-- ==== Sys2Proof/Machine/Matcher.lean ====
section
/-! DEFINITION. The device-signature matcher: RDSIG and MATCH (spec/41_signature.md). -/

namespace Sys2Proof.Machine

/-- The statements of `RDSIG(n)` (R150): four frames; the fourth response, left in RSR, is the signature byte (D9). -/
def signatureByteCode (p : Params) (n : Byte) : List Stmt :=
  framesCode p [(0x08, 0x4C), (zext8 n, 0x0C), (0x00, 0x68), (0x00, 0x6C)]

/-- `SIGB[n] <- RDSIG(n)` for n = 0, 1, 2: all three bytes, read afresh in index order (R151, D10). -/
def signatureCode (p : Params) : List Stmt :=
  signatureByteCode p 0 ++ [.keepSignature 0] ++ signatureByteCode p 1 ++ [.keepSignature 1] ++
  signatureByteCode p 2 ++ [.keepSignature 2]

/-- `RDSIG(n)` (R150). -/
def readSignatureByte (n : Byte) (s : State) : State := perform (signatureByteCode s.params n) s

/-- The three reads of one table entry (R151). -/
def readSignature (s : State) : State := perform (signatureCode s.params) s

/-- The scan of MATCH (R151) from entry `ENT` on: sentinel test first, then three reads, then the compare. The first argument
bounds the entries still to come; `matchDevice` gives one more than the table has, so the scan ends at the list's end before it does. -/
def scanTable : Nat → State → State
  | 0, s => s
  | n + 1, s =>
    if atSentinel s then testSentinel s
    else if entryMatches (readSignature s) then compareSignature (readSignature s)
    else scanTable n (compareSignature (readSignature s))

/-- The first two statements of MATCH (R151). -/
def matchEntry : List Stmt := [.clearFound, .firstEntry]

/-- `MATCH` (R151). -/
def matchDevice (s : State) : State := scanTable (s.params.deviceTable.length + 1) (perform matchEntry s)

/-- Does MATCH send any frame (R151 corner case (a))? Not when the first entry is the sentinel. -/
def scanReads (s : State) : Bool :=
  match tableRead s.params 0 with
  | none => false
  | some e => !isSentinel e

/-- Run an operation that begins with MATCH: refused if it would read SDO while the engine drives it (D18). -/
def readingIfScanned (f : State → State) (s : State) : Result :=
  match scanReads s with
  | true => readingSdo f s
  | false => .next (f s)

/-- RDSIG (R150); an index above 2 is refused (D19, U3). -/
def execRdsig (n : Byte) (s : State) : Result :=
  if n.toNat ≤ 2 then readingSdo (readSignatureByte n) s else .refused .signatureIndex

/-- MATCH (R151). -/
def execMatchDevice (s : State) : Result := readingIfScanned matchDevice s

end Sys2Proof.Machine
end

