-- ==== Sys2Proof/Machine/Fuse.lean ====
section
/-! DEFINITION. Fuse write, read and verify (spec/42_fuse.md). A write contains two POLLs; what follows them is passed along as
`after`, because the sequencer may have to stay in a POLL and go on in a later step. -/

namespace Sys2Proof.Machine

/-- The four frames of a write before its first POLL (R170). -/
def strobeCode (p : Params) (k : Kind) (v : Byte) : List Stmt :=
  framesCode p [(0x40, 0x4C), (v, 0x2C), (0x00, writeByteA k), (0x00, writeByteB k)]

/-- The final no-operation frame of a write, between its two POLLs (R170). -/
def finishCode (p : Params) : List Stmt := framesCode p [(0x00, 0x4C)]

/-- `RDFUSE.k` (R174): three frames; the third response, left in RSR, is the fuse value. -/
def readCode (p : Params) (k : Kind) : List Stmt :=
  framesCode p [(0x04, 0x4C), (0x00, readByteA k), (0x00, readByteB k)]

/-- The end of `VERIFY.k` (R178 to R181): read back, compare, set the kind's flag. -/
def readBackCode (p : Params) (k : Kind) : List Stmt := readCode p k ++ [.keepReadBack, .judge k]

/-- A write up to its first POLL. -/
def strobe (k : Kind) (v : Byte) (s : State) : State := perform (strobeCode s.params k v) s

/-- The rest of a write after its first POLL (R170): the final frame and the second POLL, then `after`. -/
def finishWrite (owner : WriteOwner) (k : Kind) (back : SessionStep) (after : State → State) (s : State) : State :=
  pollFrom (.fuseWrite owner k true) back after (perform (finishCode s.params) s)

/-- `WRFUSE.k(v)` (R170) on behalf of `owner`, then `after`. -/
def writeFuse (owner : WriteOwner) (k : Kind) (v : Byte) (back : SessionStep) (after : State → State) (s : State) : State :=
  pollFrom (.fuseWrite owner k false) back (finishWrite owner k back after) (strobe k v s)

/-- `RDFUSE.k` (R174). -/
def readFuse (k : Kind) (s : State) : State := perform (readCode s.params k) s

/-- The end of `VERIFY.k` (R178). -/
def endVerify (k : Kind) (s : State) : State := perform (readBackCode s.params k) s

/-- WRFUSE.k run alone: afterwards the sequencer stands where it stood. -/
def writeAlone (k : Kind) (v : Byte) (s : State) : State := writeFuse .write k v s.seq.back (goTo s.seq.back) s

/-- What follows the write of a VERIFY.k run alone. -/
def endVerifyAlone (k : Kind) (back : SessionStep) (s : State) : State := goTo back (endVerify k s)

/-- VERIFY.k run alone (R178). -/
def verifyAlone (k : Kind) (v : Byte) (s : State) : State :=
  writeFuse .verify k v s.seq.back (endVerifyAlone k s.seq.back) (beginVerify k v s)

/-- WRFUSE.L (R171). -/
def execWrfuseL (v : Byte) (s : State) : Result := readingSdo (writeAlone .low v) s

/-- WRFUSE.H (R172). -/
def execWrfuseH (v : Byte) (s : State) : Result := readingSdo (writeAlone .high v) s

/-- WRFUSE.E (R173). -/
def execWrfuseE (v : Byte) (s : State) : Result := readingSdo (writeAlone .ext v) s

/-- RDFUSE.L (R175). -/
def execRdfuseL (s : State) : Result := readingSdo (readFuse .low) s

/-- RDFUSE.H (R176). -/
def execRdfuseH (s : State) : Result := readingSdo (readFuse .high) s

/-- RDFUSE.E (R177). -/
def execRdfuseE (s : State) : Result := readingSdo (readFuse .ext) s

/-- VERIFY.L (R179). -/
def execVerifyL (v : Byte) (s : State) : Result := readingSdo (verifyAlone .low v) s

/-- VERIFY.H (R180). -/
def execVerifyH (v : Byte) (s : State) : Result := readingSdo (verifyAlone .high v) s

/-- Is VERIFY.E skipped (R182)? When a device matched and its descriptor has no extended fuse. Run alone, this is
the model's reading (log entry 12). -/
def extSkipped (s : State) : Bool := s.found && !hasExtFuse s.desc

/-- VERIFY.E (R181), or its skip (R182): no frame, `OKE <- 1`. -/
def execVerifyE (v : Byte) (s : State) : Result :=
  match extSkipped s with
  | true => .next (skipExt s)
  | false => readingSdo (verifyAlone .ext v) s

end Sys2Proof.Machine
end

