-- ==== Sys2Proof/Machine/Sequencer.lean ====
section
/-! DEFINITION. The sequencer (spec/10_state.md R26): the statements of every stage, where it goes on at a stage's end and after a POLL
(spec/43_session.md R197, R201, R205), and the running of one statement. -/

namespace Sys2Proof.Machine

/-- All six lines made outputs (R191). -/
def allOutputs : List (Line × Dir) :=
  [(.sci, .output), (.sdi, .output), (.sii, .output), (.sdo, .output), (.rst, .output), (.vcc, .output)]

/-- The levels of S1 (R191): logic lines 0, RST 1, VCC 0. -/
def restLevels : List (Line × Bool) :=
  [(.sci, false), (.sdi, false), (.sii, false), (.sdo, false), (.rst, true), (.vcc, false)]

/-- The statements of each session step (R191 to R200). In S1, S3 and S5 `ST` changes after the line writes, in S7, S8 and S9 before
(D29). S1's twelve writes are one step (D5, R262). S8 does not touch SDO (D23). Of S7 these are the statements before the scan. -/
def sessionCode (p : Params) : SessionStep → List Stmt
  | .idle => []
  | .s1 => [.group allOutputs restLevels, .state .poweringUp]
  | .s2 => [.level .vcc true]
  | .s3 => [.wait p.tVccToHv, .level .rst false, .state .resetAsserted]
  | .s4 => [.wait p.tHvHold]
  | .s5 => [.direction .sdo .input, .state .modeEntering]
  | .s6 => [.wait p.tEntry]
  | .s7 => .state .operating :: matchEntry
  | .s8 => [.state .poweringDown, .group [] [(.sci, false), (.sii, false), (.sdi, false)], .level .rst true, .wait p.tDown,
      .level .vcc false]
  | .s9 => [.state .idle, .publish]

/-- The statements of a stage, with the parameters and the matched descriptor: what VERIFY.k writes in a session is the descriptor's
default (R183). -/
def stageCode (p : Params) (e : Descriptor) : Stage → List Stmt
  | .own q => sessionCode p q
  | .testEntry => [.testEntry]
  | .readEntry => signatureCode p
  | .compareEntry => [.compareEntry]
  | .testFound => [.test]
  | .strobe k => .beginVerify k (factoryValue e k) :: (strobeCode p k (factoryValue e k) ++ pollEntry p)
  | .finish _ _ _ => finishCode p ++ pollEntry p
  | .readBack _ k _ => readBackCode p k
  | .testExt => [.test]
  | .skipExt => [.skipExt]
  | .noMatch => [.clearOks]
  | .settle => [.settle]

/-- The session step after `p` (R201); S7 goes on with the scan. -/
def afterStep : SessionStep → Seq
  | .idle => .due .idle
  | .s1 => .due .s2
  | .s2 => .due .s3
  | .s3 => .due .s4
  | .s4 => .due .s5
  | .s5 => .due .s6
  | .s6 => .due .s7
  | .s7 => .within .testEntry 0
  | .s8 => .due .s9
  | .s9 => .due .idle

/-- Where VERIFY.k goes on once it has compared (R184, R197): the next kind, the test for the extended fuse, the outcome. -/
def afterCompare : Kind → Seq
  | .low => .within (.strobe .high) 0
  | .high => .within .testExt 0
  | .ext => .within .settle 0

/-- Where the sequencer goes on at the end of a stage (R197, R151, R170, R178). `s` is the state before the stage's last statement, which
in a stage that branches is the test (R205). -/
def stageExit (g : Stage) (s : State) : Seq :=
  match g with
  | .own p => afterStep p
  | .testEntry => if atSentinel s then .within .testFound 0 else .within .readEntry 0
  | .readEntry => .within .compareEntry 0
  | .compareEntry => if entryMatches s then .within .testFound 0 else .within .testEntry 0
  | .testFound => if s.found then .within (.strobe .low) 0 else .within .noMatch 0
  | .strobe k => .polling (.fuseWrite .operate k false) .s8
  | .finish owner k back => .polling (.fuseWrite owner k true) back
  | .readBack owner k back =>
    match owner with
    | .write => .due back
    | .verify => .due back
    | .operate => afterCompare k
  | .testExt => if hasExtFuse s.desc then .within (.strobe .ext) 0 else .within .skipExt 0
  | .skipExt => .within .settle 0
  | .noMatch => .within .settle 0
  | .settle => .due .s8

/-- Where a POLL goes on that has sampled 1 (R133, R136, R170, R178). -/
def afterPoll (site : PollSite) (back : SessionStep) : Seq :=
  match site with
  | .alone => .due back
  | .fuseWrite owner k false => .within (.finish owner k back) 0
  | .fuseWrite owner k true =>
    match owner with
    | .write => .due back
    | .verify => .within (.readBack .verify k back) 0
    | .operate => .within (.readBack .operate k back) 0

/-- Run statement `n` of a stage, and move to the next one or leave the stage (R26, R73). A number past the end leaves it at once; no
position of the engine has one. -/
def runAt (g : Stage) (n : Nat) (s : State) : Result :=
  match (stageCode s.params s.desc g)[n]? with
  | none => .next (moveTo (stageExit g s) s)
  | some c =>
    c.run (if n + 1 < (stageCode s.params s.desc g).length then .within g (n + 1) else stageExit g s) s

end Sys2Proof.Machine
end

