-- ==== Sys2Proof/Machine/Session.lean ====
section
/-! DEFINITION. The session orchestrator: START, S1 to S9, and POLL (spec/43_session.md, spec/40_bit_and_frame.md R133, R134). A meaning
runs its operation to its end, or until a POLL in it samples 0; the sequencer (Sequencer.lean) runs the same statements one by one. -/

namespace Sys2Proof.Machine

/-! ### The work of S7 (R197), last part first -/

/-- The VERIFY of kind `k` within S7 (R197, R183): its value is the matched descriptor's default. -/
def verifyInSession (k : Kind) (after : State → State) (s : State) : State :=
  writeFuse .operate k (factoryValue s.desc k) .s8 after (beginVerify k (factoryValue s.desc k) s)

/-- The end of S7 (R197, R198): the outcome, and on to S8. -/
def endOperate (s : State) : State := goTo .s8 (settleOutcome s)

/-- S7 after the write of the extended fuse. -/
def operateAfterExt (s : State) : State := endOperate (endVerify .ext s)

/-- S7 once the high fuse is verified (R182, R197): the extended fuse, or its skip. -/
def operateExt (s : State) : State :=
  if hasExtFuse s.desc then verifyInSession .ext operateAfterExt s else endOperate (skipExt s)

/-- S7 after the write of the high fuse. -/
def operateAfterHigh (s : State) : State := operateExt (endVerify .high s)

/-- S7 after the write of the low fuse: a mismatch does not stop the later kinds (R184, D13). -/
def operateAfterLow (s : State) : State := verifyInSession .high operateAfterHigh (endVerify .low s)

/-- S7 once MATCH has run (R197). -/
def operateFound (s : State) : State :=
  if s.found then verifyInSession .low operateAfterLow s else endOperate (clearOks s)

/-- `S7`, also called OPERATE (R197). `ST <- Operating` comes first (D29). -/
def operate (s : State) : State := operateFound (matchDevice ((Stmt.state .operating).act s))

/-! ### POLL -/

/-- One iteration of POLL: of the one in progress, or else of a new one run alone. -/
def pollStep (s : State) : State :=
  match s.seq with
  | .polling site back => pollOnce site back (moveTo (afterPoll site back)) s
  | .due p => pollFrom .alone p (goTo p) s
  | .within g _ => pollFrom .alone g.sessionStep (goTo g.sessionStep) s
  | .placed _ _ => pollFrom .alone .s8 (goTo .s8) s

/-- POLL (R133, R134). -/
def execPoll (s : State) : Result := readingSdo pollStep s

/-! ### The session steps -/

/-- START (R190, D7): accepted only in Idle; otherwise no effect, and not remembered. -/
def execStart (s : State) : Result :=
  match s.st with
  | .idle => .next (goTo .s1 { emit .start s with done := false, fail := .none })
  | .poweringUp => .next s
  | .resetAsserted => .next s
  | .modeEntering => .next s
  | .operating => .next s
  | .poweringDown => .next s

/-- A session step other than S7, from its first statement to its last, and on to the step that follows it. -/
def runSession (p next : SessionStep) (s : State) : Result := .next (goTo next (perform (sessionCode s.params p) s))

/-- S1 (R191). -/
def execS1 (s : State) : Result := runSession .s1 .s2 s

/-- S2 (R192). -/
def execS2 (s : State) : Result := runSession .s2 .s3 s

/-- S3 (R193). -/
def execS3 (s : State) : Result := runSession .s3 .s4 s

/-- S4 (R194). -/
def execS4 (s : State) : Result := runSession .s4 .s5 s

/-- S5 (R195). -/
def execS5 (s : State) : Result := runSession .s5 .s6 s

/-- S6 (R196). -/
def execS6 (s : State) : Result := runSession .s6 .s7 s

/-- S7 (R197). -/
def execS7 (s : State) : Result := readingIfScanned operate s

/-- S8 (R199). -/
def execS8 (s : State) : Result := runSession .s8 .s9 s

/-- S9 (R200): back to Idle. -/
def execS9 (s : State) : Result := runSession .s9 .idle s

end Sys2Proof.Machine
end

