-- ==== Sys2Proof/Machine/Dispatch.lean ====
section
/-! DEFINITION. One arm per row of spec/opcode_table.json: each the direct call of that operation's meaning. -/

namespace Sys2Proof.Machine

def exec (i : Instr) (s : State) : Host.Outcome State Fault Refusal :=
  match i with
  | .ldcmdSig => Sys2Proof.Machine.execLdcmdSig s
  | .ldaddr n => Sys2Proof.Machine.execLdaddr n s
  | .sigsetup => Sys2Proof.Machine.execSigsetup s
  | .sigread => Sys2Proof.Machine.execSigread s
  | .ldcmdWf => Sys2Proof.Machine.execLdcmdWf s
  | .lddata v => Sys2Proof.Machine.execLddata v s
  | .wfLA => Sys2Proof.Machine.execWfLA s
  | .wfLB => Sys2Proof.Machine.execWfLB s
  | .wfHA => Sys2Proof.Machine.execWfHA s
  | .wfHB => Sys2Proof.Machine.execWfHB s
  | .wfEA => Sys2Proof.Machine.execWfEA s
  | .wfEB => Sys2Proof.Machine.execWfEB s
  | .ldcmdNop => Sys2Proof.Machine.execLdcmdNop s
  | .ldcmdRf => Sys2Proof.Machine.execLdcmdRf s
  | .rfLA => Sys2Proof.Machine.execRfLA s
  | .rfLB => Sys2Proof.Machine.execRfLB s
  | .rfHA => Sys2Proof.Machine.execRfHA s
  | .rfHB => Sys2Proof.Machine.execRfHB s
  | .rfEA => Sys2Proof.Machine.execRfEA s
  | .rfEB => Sys2Proof.Machine.execRfEB s
  | .pulse => Sys2Proof.Machine.execPulse s
  | .xfer d ins => Sys2Proof.Machine.execXfer d ins s
  | .poll => Sys2Proof.Machine.execPoll s
  | .rdsig n => Sys2Proof.Machine.execRdsig n s
  | .matchDevice => Sys2Proof.Machine.execMatchDevice s
  | .wrfuseL v => Sys2Proof.Machine.execWrfuseL v s
  | .wrfuseH v => Sys2Proof.Machine.execWrfuseH v s
  | .wrfuseE v => Sys2Proof.Machine.execWrfuseE v s
  | .rdfuseL => Sys2Proof.Machine.execRdfuseL s
  | .rdfuseH => Sys2Proof.Machine.execRdfuseH s
  | .rdfuseE => Sys2Proof.Machine.execRdfuseE s
  | .verifyL v => Sys2Proof.Machine.execVerifyL v s
  | .verifyH v => Sys2Proof.Machine.execVerifyH v s
  | .verifyE v => Sys2Proof.Machine.execVerifyE v s
  | .start => Sys2Proof.Machine.execStart s
  | .s1 => Sys2Proof.Machine.execS1 s
  | .s2 => Sys2Proof.Machine.execS2 s
  | .s3 => Sys2Proof.Machine.execS3 s
  | .s4 => Sys2Proof.Machine.execS4 s
  | .s5 => Sys2Proof.Machine.execS5 s
  | .s6 => Sys2Proof.Machine.execS6 s
  | .s7 => Sys2Proof.Machine.execS7 s
  | .s8 => Sys2Proof.Machine.execS8 s
  | .s9 => Sys2Proof.Machine.execS9 s

end Sys2Proof.Machine
end

