-- ==== Sys2Proof/Machine/Fetch.lean ====
section
/-! DEFINITION. What the sequencer runs at each position (spec/10_state.md R26), and the host's placing of a frame. The engine fetches
nothing from a memory (spec/20_memory.md R77): its sequence is fixed. -/

namespace Sys2Proof.Machine

/-- In Idle (R190): one look for Start; START if it is presented, else nothing. -/
def runIdle (s : State) : Result := if s.startPresented then exec .start (lookForStart s) else .next (lookForStart s)

/-- A frame the host placed (log entry 8): read back, and run whole; S8 follows. -/
def runPlaced (cmd : LoadedCommand) (cw : CommandWord) (s : State) : Result :=
  match decode cmd cw with
  | .ok i => exec i (goTo .s8 s)
  | .error e => .refused (.frameRejected e)

/-- One step from a position (R26, D1): a look for Start, the first or the next statement of a session step, one sample of a POLL, or the
placed frame. -/
def runPosition (q : Seq) (s : State) : Result :=
  match q with
  | .due .idle => runIdle s
  | .due p => runAt (.own p) 0 s
  | .within g n => runAt g n s
  | .polling _ _ => exec .poll s
  | .placed cmd cw => runPlaced cmd cw s

/-- The lines as S6 leaves them (R203 row S6). -/
def operatingLines : Lines :=
  { dir := ⟨.output, .output, .output, .input, .output, .output⟩
    lvl := ⟨false, false, false, false, false, true⟩ }

/-- Put one frame in the place of S7's work (log entry 8): the session stands in Operating with the lines S6 leaves, for no frame
occurs anywhere else (R196, R261). -/
def placeFrame (s : State) (cw : CommandWord) : State :=
  { s with lines := operatingLines, st := .operating, seq := .placed (standaloneCommand cw) cw }

end Sys2Proof.Machine
end

