-- ==== Sys2Proof/Machine/Step.lean ====
section
/-! DEFINITION. One step: one statement of the pseudocode, at the sequencer position (spec/92_eei_decisions.md D1, spec/10_state.md R26). -/

namespace Sys2Proof.Machine

/-- One step (D1, R73): at most one line event. -/
def step (s : State) : Host.Outcome State Fault Refusal := runPosition s.seq s

/-- The host's placement of one frame (log entry 8). Only the low 16 bits of `w` are a command word; `nbits` is 16 for every row. -/
def State.withFetchWord (s : State) (_nbits w : Nat) : State := placeFrame s (BitVec.ofNat 16 w)

end Sys2Proof.Machine
end

