-- ==== Sys2Proof/Safety.lean ====
section
/-! DEFINITION. The terms claims are stated in: the line events a frame must produce (spec/30_encoding.md R91), what the target's
pins see (spec/10_state.md R23), the lines and states of each sequencer position (spec/43_session.md R201, R203), the engine's
invariant, what a finished and a hung session are (R206, spec/60_exceptions.md R223), and, in namespace Claims, the closed-form states
that the statements compare the meanings with. -/

namespace Sys2Proof.Safety

open Sys2Proof.Machine

/-! ### The events of a frame, slot by slot (R91, R131, V1) -/

/-- The three events of one pulse (R130, V0). -/
def pulseEvents (p : Params) : List Event :=
  [.setLevel .sci true, .waitAtLeast p.tSciHigh, .setLevel .sci false]

/-- The levels of SDI and SII set together (R135, D5). -/
def latchEvent (d i : Bool) : Event := .setGroup [] [(.sdi, d), (.sii, i)]

/-- A data slot (R91): the sample, then the two lines, then the pulse. -/
def dataSlotEvents (p : Params) (b d i : Bool) : List Event := .readLevel .sdo b :: latchEvent d i :: pulseEvents p

/-- The 51 events of the frame that sends `d` and `i`, with the samples `b` of slots 1 to 8 (R91, R132), in time order. -/
def frameEvents (p : Params) (d i : Byte) (b : Nat → Bool) : List Event :=
  latchEvent false false :: pulseEvents p ++
  dataSlotEvents p (b 0) (d.getLsbD 7) (i.getLsbD 7) ++
  dataSlotEvents p (b 1) (d.getLsbD 6) (i.getLsbD 6) ++
  dataSlotEvents p (b 2) (d.getLsbD 5) (i.getLsbD 5) ++
  dataSlotEvents p (b 3) (d.getLsbD 4) (i.getLsbD 4) ++
  dataSlotEvents p (b 4) (d.getLsbD 3) (i.getLsbD 3) ++
  dataSlotEvents p (b 5) (d.getLsbD 2) (i.getLsbD 2) ++
  dataSlotEvents p (b 6) (d.getLsbD 1) (i.getLsbD 1) ++
  dataSlotEvents p (b 7) (d.getLsbD 0) (i.getLsbD 0) ++
  latchEvent false false :: pulseEvents p ++ pulseEvents p

/-- The byte whose bit `7 - j` is the sample `k + j` (R93: the first sample is bit 7). -/
def byteAt (s : State) (k : Nat) : Byte :=
  packBits [s.sample k, s.sample (k + 1), s.sample (k + 2), s.sample (k + 3), s.sample (k + 4), s.sample (k + 5),
    s.sample (k + 6), s.sample (k + 7)]

/-- The environment's answers once `n` of them have been taken. -/
def withSamplesTaken (n : Nat) (s : State) : State := { s with sdoIn := s.sdoIn.drop n, sdoDraws := s.sdoDraws + n }

/-- The state with these events added, in time order, and nothing else changed. -/
def withEvents (es : List Event) (s : State) : State := { s with trace := es.reverse ++ s.trace }

/-- The lines after these events, in time order (R21). -/
def replay (es : List Event) (ls : Lines) : Lines := es.foldl (fun acc e => e.apply acc) ls

/-- The lines with SCI, SDI and SII at level 0 and everything else as it was (R38 (a), (b)). -/
def atRest (ls : Lines) : Lines := { ls with lvl := { ls.lvl with sci := false, sdi := false, sii := false } }

/-- The levels of SDI and SII at each rising edge of SCI, in time order, over events that start from `ls` (R91's two columns). -/
def latchedPairs : Lines → List Event → List (Bool × Bool)
  | _, [] => []
  | ls, e :: es =>
    if ls.lvl.sci = false ∧ (e.apply ls).lvl.sci = true then
      ((e.apply ls).lvl.sdi, (e.apply ls).lvl.sii) :: latchedPairs (e.apply ls) es
    else latchedPairs (e.apply ls) es

/-- Is the event the start of a pulse? -/
def isRise : Event → Bool
  | .setLevel .sci true => true
  | _ => false

/-- The levels of SDI and SII at each pulse, in time order, over events that start from `ls`. -/
def pulsedPairs : Lines → List Event → List (Bool × Bool)
  | _, [] => []
  | ls, e :: es =>
    if isRise e then ((e.apply ls).lvl.sdi, (e.apply ls).lvl.sii) :: pulsedPairs (e.apply ls) es else pulsedPairs (e.apply ls) es

/-- Eleven pulses at a time, read as frames: the data byte and the instruction byte of slots 1 to 8 (R91). -/
def readFrames : List (Bool × Bool) → List (Byte × Byte)
  | _ :: p1 :: p2 :: p3 :: p4 :: p5 :: p6 :: p7 :: p8 :: _ :: _ :: rest =>
    (packBits [p1.1, p2.1, p3.1, p4.1, p5.1, p6.1, p7.1, p8.1], packBits [p1.2, p2.2, p3.2, p4.2, p5.2, p6.2, p7.2, p8.2]) ::
      readFrames rest
  | _ => []

/-- These events, which start from `ls`, send exactly these frames, in this order, and no other pulse (R90, R91). -/
def Sends (ls : Lines) (es : List Event) (frames : List (Byte × Byte)) : Prop :=
  readFrames (pulsedPairs ls es) = frames ∧ (pulsedPairs ls es).length = 11 * frames.length

/-- Is the event a sample of SDO? -/
def isSample : Event → Bool
  | .readLevel .sdo _ => true
  | _ => false

/-- Is the event a grouped write? -/
def isGroup : Event → Bool
  | .setGroup _ _ => true
  | _ => false

/-- Is the event a wait? -/
def isWait : Event → Bool
  | .waitAtLeast _ => true
  | _ => false

/-! ### The target's pins (R23) -/

/-- The high voltage stands on the target's reset pin: RST is driven to 0. -/
def highVoltageOn (ls : Lines) : Bool := ls.pad .rst == some false

/-- The target's supply is on: VCC is driven to 1. -/
def supplyOn (ls : Lines) : Bool := ls.pad .vcc == some true

/-- The high voltage is applied only to a powered target (V9 corner case (d)). -/
def pinsSafe (ls : Lines) : Bool := !highVoltageOn ls || supplyOn ls

/-! ### Sequencer positions (R201, R203) -/

/-- The lines of one row of R203: SDO driven or released, and the levels of RST and VCC; the logic lines at level 0. -/
def sessionLines (sdo : Dir) (rst vcc : Bool) : Lines :=
  { dir := ⟨.output, .output, .output, sdo, .output, .output⟩
    lvl := ⟨false, false, false, false, rst, vcc⟩ }

/-- The lines inside S7 (R203 row S6, R38): the clock and the two data lines at these levels, everything else as S6 leaves it. -/
def workLines (sci sdi sii : Bool) : Lines :=
  { dir := ⟨.output, .output, .output, .input, .output, .output⟩
    lvl := ⟨sci, sdi, sii, false, false, true⟩ }

/-- What the statements run so far say of the clock line, and whether they leave SDI and SII at 0. -/
structure Bus where
  /-- The level of SCI. -/
  clock : Bool
  /-- SDI and SII are 0. -/
  quiet : Bool
  deriving DecidableEq, Repr

/-- The bus outside frames (R38 (a), (b)). -/
def Bus.rest : Bus := ⟨false, true⟩

/-- What a statement of a frame does to it: only PULSE moves SCI (R130), only the `Set` steps move SDI and SII (R135). -/
def Bus.after (b : Bus) : Stmt → Bus
  | .level .sci v => { b with clock := v }
  | .group _ _ => { b with quiet := true }
  | .drive => { b with quiet := false }
  | _ => b

/-- The bus before statement `n` of a stage. -/
def busAt (s : State) (g : Stage) (n : Nat) : Bus := ((stageCode s.params s.desc g).take n).foldl Bus.after Bus.rest

/-- The lines before statement `n` of a session step (R203, R38): `none` where the session does not fix them yet. -/
def stepLines : SessionStep → Nat → Option Lines
  | .idle, _ => none
  | .s1, 0 => none
  | .s1, _ + 1 => some (sessionLines .output true false)
  | .s2, _ => some (sessionLines .output true false)
  | .s3, 0 => some (sessionLines .output true true)
  | .s3, 1 => some (sessionLines .output true true)
  | .s3, _ + 2 => some (sessionLines .output false true)
  | .s4, _ => some (sessionLines .output false true)
  | .s5, 0 => some (sessionLines .output false true)
  | .s5, _ + 1 => some (sessionLines .input false true)
  | .s6, _ => some (sessionLines .input false true)
  | .s7, _ => some (sessionLines .input false true)
  | .s8, 0 => some (sessionLines .input false true)
  | .s8, 1 => some (sessionLines .input false true)
  | .s8, 2 => some (sessionLines .input false true)
  | .s8, _ + 3 => some (sessionLines .input true true)
  | .s9, _ => some (sessionLines .input true false)

/-- What the session fixes of the lines at its positions (R203, R38, R135). -/
def LinesOk (s : State) : Prop :=
  match s.seq with
  | .due p => ∀ ls, stepLines p 0 = some ls → s.lines = ls
  | .within (.own p) n => ∀ ls, stepLines p n = some ls → s.lines = ls
  | .within g n => ∃ sdi sii, s.lines = workLines (busAt s g n).clock sdi sii ∧ ((busAt s g n).quiet = true → sdi = false ∧ sii = false)
  | .polling _ _ => s.lines = sessionLines .input false true
  | .placed _ _ => s.lines = sessionLines .input false true

/-- S1's writes are still to come, so the spec says nothing of the lines (R39, R251). -/
def beforeFirstWrites : Seq → Bool
  | .due .idle => true
  | .due .s1 => true
  | .within (.own .s1) 0 => true
  | _ => false

/-- The session state before statement `n` of a session step (R201, D29). -/
def stepState : SessionStep → Nat → SessionState
  | .idle, _ => .idle
  | .s1, _ => .idle
  | .s2, _ => .poweringUp
  | .s3, _ => .poweringUp
  | .s4, _ => .resetAsserted
  | .s5, _ => .resetAsserted
  | .s6, _ => .modeEntering
  | .s7, 0 => .modeEntering
  | .s7, _ + 1 => .operating
  | .s8, 0 => .operating
  | .s8, _ + 1 => .poweringDown
  | .s9, 0 => .poweringDown
  | .s9, _ + 1 => .idle

/-- The session state at a position (R201): Operating throughout S7's work. -/
def stateAt : Seq → SessionState
  | .due p => stepState p 0
  | .within (.own p) n => stepState p n
  | _ => .operating

/-- A session step whose statements come before the work of S7. -/
def earlyStep : SessionStep → Bool
  | .s1 => true
  | .s2 => true
  | .s3 => true
  | .s4 => true
  | .s5 => true
  | .s6 => true
  | .s7 => true
  | _ => false

/-- The session has not reached the work of S7 yet. -/
def beforeOperate : Seq → Bool
  | .due p => earlyStep p
  | .within (.own p) _ => earlyStep p
  | _ => false

/-- A session step of the way down. -/
def lateStep : SessionStep → Bool
  | .s8 => true
  | .s9 => true
  | _ => false

/-- The work of S7 is over, so OUTCOME stands (R31, R198): on the way down, or published and not yet cleared. -/
def outcomeStands (s : State) : Bool :=
  match s.seq with
  | .due .idle => s.done
  | .due p => lateStep p
  | .within (.own p) _ => lateStep p
  | .placed _ _ => true
  | _ => false

/-- MATCH has found the entry it stands at (R151). -/
structure Matched (s : State) : Prop where
  found : s.found = true
  entry : tableRead s.params s.ent = some s.desc
  bytes : s.sigb = s.desc.sig
  real : isSentinel s.desc = false

/-- The causes that S7 can have recorded after a match (R222): none, or a mismatch. -/
def mismatchOnly (s : State) : Prop := s.fail = .none ∨ s.fail = .verifyMismatch

/-- The kinds verified before `k` all read back equal. -/
def earlierOk (s : State) : Kind → Bool
  | .low => true
  | .high => s.okl
  | .ext => s.okl && s.okh

/-- What holds in the VERIFY of kind `k` of S7 (R183, R197, R222). -/
structure Verifying (s : State) (k : Kind) : Prop where
  device : Matched s
  applies : k = .ext → hasExtFuse s.desc = true
  clean : earlierOk s k = true → s.fail = .none
  causes : mismatchOnly s

/-- `KIND` and `WVAL` are those of the VERIFY in progress: the descriptor's default is what is written (R178, R183). -/
def writesDefault (s : State) (k : Kind) : Prop := s.kind = k ∧ s.wval = factoryValue s.desc k

/-- What holds at the position, of the registers the work of S7 goes by. -/
def WorkFacts (s : State) : Prop :=
  match s.seq with
  | .due _ => True
  | .within (.own p) n => p = .s7 → 2 ≤ n → s.found = false
  | .within .testEntry _ => s.found = false ∧ s.fail = .none
  | .within .readEntry _ => s.found = false ∧ s.fail = .none ∧ atSentinel s = false
  | .within .compareEntry _ => s.found = false ∧ s.fail = .none ∧ atSentinel s = false
  | .within .testFound _ => (s.found = true → Matched s ∧ s.fail = .none) ∧ (s.found = false → s.fail = .unknownDevice)
  | .within .noMatch _ => s.found = false ∧ s.fail = .unknownDevice
  | .within (.strobe k) n => Verifying s k ∧ (1 ≤ n → writesDefault s k)
  | .within (.finish owner k back) _ => owner = .operate ∧ back = .s8 ∧ Verifying s k ∧ writesDefault s k
  | .within (.readBack owner k back) _ => owner = .operate ∧ back = .s8 ∧ Verifying s k ∧ writesDefault s k
  | .within .testExt _ => Matched s ∧ mismatchOnly s ∧ (s.okl = true → s.okh = true → s.fail = .none)
  | .within .skipExt _ =>
    Matched s ∧ mismatchOnly s ∧ (s.okl = true → s.okh = true → s.fail = .none) ∧ hasExtFuse s.desc = false
  | .within .settle _ => s.found = true → s.okl = true → s.okh = true → s.oke = true → s.fail = .none
  | .polling (.fuseWrite owner k _) back => owner = .operate ∧ back = .s8 ∧ Verifying s k ∧ writesDefault s k
  | .polling .alone _ => False
  | .placed _ _ => True

/-- The position is one of a statement: the numbers stop with the stage's statements (R26: finitely many positions). -/
def InCode (s : State) : Prop :=
  match s.seq with
  | .within g n => n < (stageCode s.params s.desc g).length
  | _ => True

/-- The engine's invariant: what every state of a session satisfies between two statements, whatever the environment answers. -/
structure EngineInv (s : State) : Prop where
  /-- The position is one of a statement. -/
  inCode : InCode s
  /-- `ST` is the state of the position (R201). -/
  state : s.st = stateAt s.seq
  /-- From S1's writes on, the twelve line bits are those of the position (R203, R38, R135). -/
  lines : LinesOk s
  /-- Between sessions the target is unpowered with its reset pin held low (R39, R203, R236). -/
  afterSession : s.seq = .due .idle → s.done = true → s.lines = sessionLines .input true false
  /-- `DONE` is 0 while a session runs (D8). -/
  running : s.seq ≠ .due .idle → s.done = false
  /-- No cause is recorded before S7's work (R190, R229). -/
  noEarlyFailure : beforeOperate s.seq = true → s.fail = .none
  /-- What holds in S7's work. -/
  work : WorkFacts s
  /-- A true outcome means a match, three true flags and no cause (R198, R220). -/
  outcome : outcomeStands s = true → s.outcome = true →
    s.found = true ∧ s.okl = true ∧ s.okh = true ∧ s.oke = true ∧ s.fail = .none

/-! ### How a session ends, or does not (R206, R223) -/

/-- What the collaborator may read (R255, D8): the outcome, while `DONE = 1`. -/
def published (s : State) : Option Bool := if s.done then some s.outcome else none

/-- A session has ended (R206). -/
def sessionEnded (s : State) : Prop := s.st = .idle ∧ s.done = true

/-- Where a hung session stands (R223): in a POLL, `ST = Operating`, `DONE = 0`, target powered with the high voltage applied. -/
def hangs (s : State) : Prop :=
  (∃ site back, s.seq = .polling site back) ∧ s.st = .operating ∧ s.done = false ∧ s.lines.lvl.vcc = true ∧ s.lines.lvl.rst = false

end Sys2Proof.Safety

namespace Sys2Proof.Claims

open Sys2Proof.Machine Sys2Proof.Safety

/-! ### States the rules describe -/

/-- The engine does not drive SDO, so it may be read (R21, R22). -/
def Readable (s : State) : Prop := s.lines.dir.sdo = .input

/-- After one frame (R91 to R93, R131): the response in RSR, DSR and ISR empty, SLOT 10, clock and data lines at 0, eight samples
taken, the 51 events added. Every other register, every flag and every other line bit is as before. -/
def afterFrame (d i : Byte) (s : State) : State :=
  withEvents (frameEvents s.params d i s.sample)
    (withSamplesTaken 8 { s with lines := atRest s.lines, dsr := 0, isr := 0, rsr := byteAt s 0, slot := 10 })

/-- After several frames, the first one first. -/
def afterFrames (frames : List (Byte × Byte)) (s : State) : State := frames.foldl (fun t f => afterFrame f.1 f.2 t) s

/-- The sample count the bounded variant keeps; the unbounded one keeps none (R33). -/
def countAfter (s : State) (n : Nat) : Nat := if s.params.pollLimit = none then s.pcnt else n

/-- After one sample of a POLL that read `b` as its sample number `n` (R133, R134). -/
def afterSample (b : Bool) (n : Nat) (s : State) : State :=
  withEvents [.readLevel .sdo b] (withSamplesTaken 1 { s with pcnt := countAfter s n })

/-- After the four frames of a fuse write before its first POLL (R170). -/
def afterStrobe (a b v : Byte) (s : State) : State := afterFrames [(0x40, 0x4C), (v, 0x2C), (0x00, a), (0x00, b)] s

/-- After the first POLL sampled 1 at once and the final frame was sent (R170). -/
def afterFifthFrame (a b v : Byte) (s : State) : State := afterFrame 0x00 0x4C (afterSample true 1 (afterStrobe a b v s))

/-- After a fuse write whose two POLLs each sampled 1 at once (R170): four frames, POLL, the final frame, POLL. -/
def afterWriteAtOnce (a b v : Byte) (s : State) : State := afterSample true 1 (afterFifthFrame a b v s)

/-- After a fuse read (R174). -/
def afterRead (a b : Byte) (s : State) : State := afterFrames [(0x04, 0x4C), (0x00, a), (0x00, b)] s

/-- `FAIL` after `raise c` (R226). -/
def failAfter (c : Cause) (s : State) : Cause := if s.fail = .none then c else s.fail

/-- The cause left by a compare (R178). -/
def failAfterCompare (ok : Bool) (s : State) : Cause := if ok then s.fail else failAfter .verifyMismatch s

/-- The engine comes from `s` to `t` by some number of steps, each one statement (D1). -/
def Reaches (s t : State) : Prop := ∃ n, Host.Core.run core n s = .next t

/-- The sequencer stands at `q`, and nothing else is changed. -/
def standing (q : Seq) (s : State) : State := { s with seq := q }

/-- `KIND` and `WVAL` at the start of a VERIFY (R178). -/
def withVerify (k : Kind) (v : Byte) (s : State) : State := { s with kind := k, wval := v }

/-- `RVAL` and `FAIL` at the end of a VERIFY (R178, R222). -/
def withReadBack (r : Byte) (c : Cause) (s : State) : State := { s with rval := r, fail := c }

/-- `OKL` written. -/
def withOkl (b : Bool) (s : State) : State := { s with okl := b }

/-- `OKH` written. -/
def withOkh (b : Bool) (s : State) : State := { s with okh := b }

/-- `OKE` written. -/
def withOke (b : Bool) (s : State) : State := { s with oke := b }

/-- The flag of kind `k` written (R179 to R181). -/
def withOk (k : Kind) (b : Bool) (s : State) : State :=
  match k with
  | .low => withOkl b s
  | .high => withOkh b s
  | .ext => withOke b s

/-- The rest of a VERIFY of kind `k` once its second POLL is over (R178): read back, compare with `WVAL`, set the flag. -/
def verified (k : Kind) (s : State) : State :=
  withOk k (decide (byteAt s 16 = s.wval))
    (withReadBack (byteAt s 16) (failAfterCompare (decide (byteAt s 16 = s.wval)) s) (afterRead k.readA k.readB s))

/-- The factory default a session writes to a kind (R183). -/
def kindDefault (e : Descriptor) : Kind → Byte
  | .low => e.low
  | .high => e.high
  | .ext => e.ext

/-- The start of the VERIFY of kind `k` of a session (R178, R183). -/
def withSessionVerify (k : Kind) (s : State) : State := withVerify k (kindDefault s.desc k) s

/-- A write after its first POLL has sampled 1: the final frame (R170). -/
def afterFirstPoll (s : State) : State := afterFrame 0x00 0x4C (afterSample true (s.pcnt + 1) s)

/-- The bounded variant's failure (R134, R223, R226): the cause recorded unless one was, outcome 0, on to S8. -/
def abandoned (s : State) : State :=
  { s with fail := failAfter .targetUnresponsive s, outcome := false, seq := .due .s8 }

/-- After the first sample of a POLL read 0 (R133, R134): the sequencer stays in the POLL, unless one sample was all it may take. -/
def afterFirstLow (site : PollSite) (back : SessionStep) (s : State) : State :=
  if s.params.pollLimit = some 1 then abandoned (afterSample false 1 s)
  else standing (.polling site back) (afterSample false 1 s)

/-- The outcome written at the end of S7 (R198), and on to S8. -/
def settled (s : State) : State :=
  { s with outcome := s.found && s.okl && s.okh && s.oke, seq := .due .s8 }

/-- The result `r` is what S7 comes to once the high fuse is verified in `c` (R182, R197): the skip of the extended fuse, or its VERIFY as
it runs alone where that one ends without a wait; then the outcome. -/
def EndsFrom (c : State) (r : Result) : Prop :=
  (c.desc.ext = 0x00 → r = .next (settled (withOke true c))) ∧
  (∀ d, c.desc.ext ≠ 0x00 → exec (.verifyE c.desc.ext) c = .next d → d.seq = .due .s7 → r = .next (settled d))

/-- Where a session goes on in S7 once the second POLL of the VERIFY of kind `k` is over (R182, R184, R197): compare, then the next kind
that applies, or else the outcome. -/
def goesOn (k : Kind) (s : State) : State :=
  match k with
  | .low => standing (.within (.strobe .high) 0) (verified .low s)
  | .high =>
    if s.desc.ext = 0x00 then settled (withOke true (verified .high s))
    else standing (.within (.strobe .ext) 0) (verified .high s)
  | .ext => settled (verified .ext s)

/-- `t` is where S7 comes to when the VERIFY of kind `k`, run alone, comes to `b` without ending: the same wait, but the POLL belongs to
the session and S8 follows; or the same surrender of the bounded variant. -/
def StopsAs (k : Kind) (b : State) (r : Result) : Prop :=
  (∀ second, b.seq = .polling (.fuseWrite .verify k second) .s7 →
    r = .next (standing (.polling (.fuseWrite .operate k second) .s8) b)) ∧
  (b.seq = .due .s8 → r = .next b)

/-- The signature the target gives while entry `m` is tried: four frames a byte, the fourth response (R150, R151). -/
def entrySignature (s : State) (m : Nat) : Signature :=
  ⟨byteAt s (96 * m + 24), byteAt s (96 * m + 56), byteAt s (96 * m + 88)⟩

/-- Entries 0 to `m - 1` are real and the target's answers differ from each (R151). -/
def PassedOver (s : State) (m : Nat) : Prop :=
  ∀ j, j < m → ∃ e, s.params.deviceTable[j]? = some e ∧ e.sig ≠ Signature.sentinel ∧ entrySignature s j ≠ e.sig

/-- Entry `m` is the first the target's answers match (R151). -/
def FirstMatch (s : State) (m : Nat) (e : Descriptor) : Prop :=
  PassedOver s m ∧ s.params.deviceTable[m]? = some e ∧ e.sig ≠ Signature.sentinel ∧ entrySignature s m = e.sig

/-- The scan comes to the sentinel at index `m` without a match (R62, R151). -/
def NoMatch (s : State) (m : Nat) : Prop :=
  PassedOver s m ∧ (s.params.deviceTable[m]? = none ∨ ∃ e, s.params.deviceTable[m]? = some e ∧ e.sig = Signature.sentinel)

/-- The twelve frames that read the three signature bytes in index order (R150, R151). -/
def signatureFrames : List (Byte × Byte) :=
  [(0x08, 0x4C), (0x00, 0x0C), (0x00, 0x68), (0x00, 0x6C), (0x08, 0x4C), (0x01, 0x0C), (0x00, 0x68), (0x00, 0x6C),
   (0x08, 0x4C), (0x02, 0x0C), (0x00, 0x68), (0x00, 0x6C)]

/-- The state once `n` entries of the table have been tried, each with its twelve frames (R151); the matcher's registers as before. -/
def afterTries : Nat → State → State
  | 0, s => s
  | n + 1, s => afterFrames signatureFrames (afterTries n s)

/-- `ENT`, `SIGB`, `FOUND` and `DESC` at the end of MATCH (R151). -/
def withMatch (m : Nat) (g : Signature) (found : Bool) (e : Descriptor) (s : State) : State :=
  { s with ent := m, sigb := g, found := found, desc := e }

/-- `FAIL` written. -/
def withFail (c : Cause) (s : State) : State := { s with fail := c }

/-- `SIGB` once `n` entries have been tried: the last one's answers, or what it held before the first (R151). -/
def signatureAfter (s : State) : Nat → Signature
  | 0 => s.sigb
  | n + 1 => entrySignature s n

/-- The frames of MATCH when `n` entries are tried (R151, D10). -/
def matchFrames (n : Nat) : List (Byte × Byte) := (List.replicate n signatureFrames).flatten

/-- The frames of `VERIFY.k(v)` (R170, R174, R178): five of the write, three of the read. -/
def verifyFrames (k : Kind) (v : Byte) : List (Byte × Byte) :=
  [(0x40, 0x4C), (v, 0x2C), (0x00, k.writeA), (0x00, k.writeB), (0x00, 0x4C), (0x04, 0x4C), (0x00, k.readA), (0x00, k.readB)]

/-- What S7 may change (R197): what MATCH may, the fuse registers, the flags, the outcome, the poll count, `ST` and `SEQ`. -/
def OperateFrame (s t : State) : Prop :=
  t = { s with
    lines := t.lines, st := t.st, seq := t.seq, dsr := t.dsr, isr := t.isr, rsr := t.rsr, slot := t.slot, ent := t.ent
    sigb := t.sigb, found := t.found, desc := t.desc, kind := t.kind, wval := t.wval, rval := t.rval, okl := t.okl
    okh := t.okh, oke := t.oke, outcome := t.outcome, fail := t.fail, pcnt := t.pcnt, sdoIn := t.sdoIn
    sdoDraws := t.sdoDraws, trace := t.trace }

/-- The VERIFY that starts once `b` samples have been taken finds both of its POLLs answered 1 at once (R170, R178). -/
def PollsReady (s : State) (b : Nat) : Prop := s.sample (b + 32) = true ∧ s.sample (b + 41) = true

/-- The POLL that starts once `b` samples have been taken is answered 0 for `d` samples and then 1, before any limit (R133, R134). -/
def Answered (s : State) (b d : Nat) : Prop :=
  (∀ j, j < d → s.sample (b + j) = false) ∧ s.sample (b + d) = true ∧ ∀ n, s.params.pollLimit = some n → d < n

/-- The VERIFY that starts once `b` samples have been taken has its first POLL answered after `d.1` low samples and its second after
`d.2` (R170, R178). -/
def VerifyAnswered (s : State) (b : Nat) (d : Nat × Nat) : Prop := Answered s (b + 32) d.1 ∧ Answered s (b + 41 + d.1) d.2

/-- How many samples have been taken when that VERIFY ends. -/
def verifyEnd (b : Nat) (d : Nat × Nat) : Nat := b + 66 + d.1 + d.2

/-- What the VERIFY that starts once `b` samples have been taken and waits `d` reads back (R174, R178). -/
def lateReadBack (s : State) (b : Nat) (d : Nat × Nat) : Byte := byteAt s (b + 58 + d.1 + d.2)

/-- What the VERIFY that starts once `b` samples have been taken reads back: the third response of its read (R174, R178). -/
def readBackAt (s : State) (b : Nat) : Byte := byteAt s (b + 58)

/-- The state `k` low samples later in a POLL that goes on (R133). -/
def afterLows (k : Nat) (s : State) : State :=
  withEvents (List.replicate k (.readLevel .sdo false)) (withSamplesTaken k { s with pcnt := countAfter s (s.pcnt + k) })

/-- No sample of SDO among these events. -/
def noSample (es : List Event) : Prop := ∀ e ∈ es, isSample e = false

/-- The events a step added, in time order. -/
def Added (s t : State) (es : List Event) : Prop := t.trace = es.reverse ++ s.trace

/-- The transitions of `ST` (R201), with a step that leaves it as it is in the state it may rest in. -/
def stTransitions : List (SessionState × SessionState) :=
  [(.idle, .idle), (.idle, .poweringUp), (.poweringUp, .poweringUp), (.poweringUp, .resetAsserted),
   (.resetAsserted, .resetAsserted), (.resetAsserted, .modeEntering), (.modeEntering, .modeEntering),
   (.modeEntering, .operating), (.operating, .operating), (.operating, .poweringDown), (.poweringDown, .poweringDown),
   (.poweringDown, .idle)]

end Sys2Proof.Claims
end

