-- ==== Sys2Proof/Certificates/Slice0/Obligations.lean ====
section
/-! DEFINITION. The statements for the provers, in the terms of Sys2Proof.Safety: the closed-form states there are written from the rules
of spec/, not from the meanings' own text. Where a statement gives the trace, every write of a line is in it, also one that changes nothing:
R131 corner case (c) leaves that to the model, and it is the model's choice (log entry 7). -/

open Sys2Proof Sys2Proof.Machine Sys2Proof.Safety Sys2Proof.Claims

/-! ### Encoding -/

/-- Words written out from R95's table read as the roles they stand for, shared ones by the loaded command (R98); and one word of no row
reads as XFER, which is the model's choice (log entry 14). -/
def Obligations.TableWordsRead : Prop :=
  decode .idle 0b0100110000001000 = .ok .ldcmdSig ∧ decode .signature 0b0000110000000010 = .ok (.ldaddr 2) ∧
  decode .writeFuse 0b0010110001100010 = .ok (.lddata 0x62) ∧ decode .writeFuse 0b0111010000000000 = .ok .wfHA ∧
  decode .signature 0b0110110000000000 = .ok .sigread ∧ decode .writeFuse 0b0110110000000000 = .ok .wfLB ∧
  decode .readFuse 0b0110110000000000 = .ok .rfLB ∧ decode .readFuse 0b0111101000000000 = .ok .rfHA ∧
  decode .idle 0b0011110010100101 = .ok (.xfer 0xA5 0x3C)

/-- Every well-formed frame role is read back from its own word under its own context; the generic XFER is read back as an operation that
sends the same frame, unless its word is the reserved one. A generic frame that fits no row reads as XFER: the model's choice (log entry
14). -/
def Obligations.FrameWordRoundTrip : Prop :=
  (∀ i cw, i.wellFormed = true → (∀ d ins, i ≠ .xfer d ins) → frameWord i = some cw → decode (roleCommand i) cw = .ok i) ∧
  (∀ cmd d ins, ¬ (cmd = .signature ∧ d = 0x03 ∧ ins = 0x0C) →
    ∃ i, decode cmd (commandWord d ins) = .ok i ∧ frameBytes i = some (d, ins))

/-- Every well-formed operation that has a bus encoding (R97), but the generic frame, is read back from it. -/
def Obligations.BusSequenceRoundTrip : Prop :=
  ∀ i items, i.wellFormed = true → (∀ d ins, i ≠ .xfer d ins) → encode i = some items → decodeSequence (roleCommand i) items = some i

/-- The decoder refuses one word only, and under one loaded command: LDADDR with the reserved index (R99 (a)). The refusal is the model's
choice (log entry 14). -/
def Obligations.DecodeRefusesOnlyReservedIndex : Prop :=
  ∀ cmd cw e, decode cmd cw = .error e ↔ e = .reservedIndex ∧ cmd = .signature ∧ cw = 0x0C03

/-- The line pattern of a byte has 11 slots, 0 in the start and the two stop slots, and the byte is read back from it (R90, R91). -/
def Obligations.LinePatternRoundTrip : Prop :=
  ∀ b : Byte, (slotPattern b).length = 11 ∧ (slotPattern b)[0]? = some false ∧ (slotPattern b)[9]? = some false ∧
    (slotPattern b)[10]? = some false ∧ readSlots (slotPattern b) = some b

/-! ### PULSE and frames -/

/-- PULSE (R130): SCI up, the wait, SCI down; nothing but the trace is changed, for SCI was low. -/
def Obligations.PulseDrivesClockOnly : Prop :=
  ∀ s, s.lines.dir.sci = .output → s.lines.lvl.sci = false →
    exec .pulse s =
      .next (withEvents [.setLevel .sci true, .waitAtLeast s.params.tSciHigh, .setLevel .sci false] s)

/-- PULSE without its precondition is refused (U1). The refusal is the model's choice (log entry 10). -/
def Obligations.PulseNeedsLowDrivenClock : Prop :=
  ∀ s, (s.lines.dir.sci ≠ .output ∨ s.lines.lvl.sci = true) → exec .pulse s = .refused .pulseOutsideFrame

/-- XFER (R131): the result and the frame of one transfer, for every data byte, instruction byte and environment.
In the trace a write that changes nothing is an event too: the model's choice (log entry 7). -/
def Obligations.TransferResult : Prop :=
  ∀ d i s, Readable s → exec (.xfer d i) s = .next (afterFrame d i s)

/-- Each of the 20 frame roles is the transfer of its row's two bytes (R95). -/
def Obligations.FrameRolesSendTheirBytes : Prop :=
  ∀ s, Readable s →
    exec .ldcmdSig s = .next (afterFrame 0x08 0x4C s) ∧
    exec (.ldaddr 0) s = .next (afterFrame 0x00 0x0C s) ∧
    exec (.ldaddr 1) s = .next (afterFrame 0x01 0x0C s) ∧
    exec (.ldaddr 2) s = .next (afterFrame 0x02 0x0C s) ∧
    exec .sigsetup s = .next (afterFrame 0x00 0x68 s) ∧
    exec .sigread s = .next (afterFrame 0x00 0x6C s) ∧
    exec .ldcmdWf s = .next (afterFrame 0x40 0x4C s) ∧
    (∀ v, exec (.lddata v) s = .next (afterFrame v 0x2C s)) ∧
    exec .wfLA s = .next (afterFrame 0x00 0x64 s) ∧
    exec .wfLB s = .next (afterFrame 0x00 0x6C s) ∧
    exec .wfHA s = .next (afterFrame 0x00 0x74 s) ∧
    exec .wfHB s = .next (afterFrame 0x00 0x7C s) ∧
    exec .wfEA s = .next (afterFrame 0x00 0x66 s) ∧
    exec .wfEB s = .next (afterFrame 0x00 0x6E s) ∧
    exec .ldcmdNop s = .next (afterFrame 0x00 0x4C s) ∧
    exec .ldcmdRf s = .next (afterFrame 0x04 0x4C s) ∧
    exec .rfLA s = .next (afterFrame 0x00 0x68 s) ∧
    exec .rfLB s = .next (afterFrame 0x00 0x6C s) ∧
    exec .rfHA s = .next (afterFrame 0x00 0x7A s) ∧
    exec .rfHB s = .next (afterFrame 0x00 0x7E s) ∧
    exec .rfEA s = .next (afterFrame 0x00 0x6A s) ∧
    exec .rfEB s = .next (afterFrame 0x00 0x6E s)

/-- Every transfer, whatever its bytes and the environment, has 11 pulses with 11 waits of `T_SCI_HIGH`, 8 samples and 10 grouped writes,
and no other event (R132, T2). A grouped write counts also where it changes nothing: the model's choice (log entry 7). -/
def Obligations.TransferCounts : Prop :=
  ∀ d i s, Readable s → ∃ t es, exec (.xfer d i) s = .next t ∧ Added s t es ∧ es.countP isRise = 11 ∧
    es.count (.setLevel .sci false) = 11 ∧ es.count (.waitAtLeast s.params.tSciHigh) = 11 ∧ es.countP isSample = 8 ∧
    es.countP isGroup = 10 ∧ es.length = 51

/-- The levels the target can latch: at the 11 rising edges of SCI, SDI carries the pattern of `d` and SII that of `i` (R91, R135). -/
def Obligations.TransferLatchesPatterns : Prop :=
  ∀ d i s, Readable s → s.lines.lvl.sci = false → ∃ t es, exec (.xfer d i) s = .next t ∧ Added s t es ∧
    latchedPairs s.lines es = (slotPattern d).zip (slotPattern i)

/-- The response (R93): the first sample is bit 7, the eighth bit 0; in register terms RSR starts at 0 and takes each sample at bit 0. -/
def Obligations.ResponseFirstSampleIsTopBit : Prop :=
  ∀ d i s, Readable s → ∃ t, exec (.xfer d i) s = .next t ∧ (∀ j, j < 8 → t.rsr.getLsbD (7 - j) = s.sample j) ∧
    t.rsr = (List.range 8).foldl (fun r j => shl1 r ||| (BitVec.ofBool (s.sample j)).setWidth 8) 0x00

/-- Nothing reads SDO while the engine drives it (D18, U2): every frame, POLL and fuse operation is then refused. The refusal follows the
spec's decision D18 (log entry 10). -/
def Obligations.ReadsRefusedWhileDriven : Prop :=
  ∀ s, s.lines.dir.sdo = .output →
    (∀ i, (frameBytes i).isSome = true → i.wellFormed = true → exec i s = .refused .sdoDriven) ∧
    exec .poll s = .refused .sdoDriven ∧
    (∀ n, n.toNat ≤ 2 → exec (.rdsig n) s = .refused .sdoDriven) ∧
    (∀ v, exec (.wrfuseL v) s = .refused .sdoDriven ∧ exec (.wrfuseH v) s = .refused .sdoDriven ∧
      exec (.wrfuseE v) s = .refused .sdoDriven ∧ exec (.verifyL v) s = .refused .sdoDriven ∧
      exec (.verifyH v) s = .refused .sdoDriven ∧
      ((s.found = true → s.desc.ext ≠ 0x00) → exec (.verifyE v) s = .refused .sdoDriven)) ∧
    exec .rdfuseL s = .refused .sdoDriven ∧ exec .rdfuseH s = .refused .sdoDriven ∧ exec .rdfuseE s = .refused .sdoDriven ∧
    (∀ e, s.params.deviceTable[0]? = some e → e.sig ≠ Signature.sentinel →
      exec .matchDevice s = .refused .sdoDriven ∧ exec .s7 s = .refused .sdoDriven)

/-! ### POLL -/

/-- A POLL run alone (R133, R134): it returns after one sample that reads 1 (corner case (a)), and the sequencer stands where it would go
on (`Seq.back`: a due step stays due, a step in progress begins again, a placed frame is over); on a 0 the sequencer stays in it and nothing
but the sample happens, unless the one sample was all the bounded variant allows. Where the sequencer stands afterwards is the model's choice
(log entry 11). -/
def Obligations.PollTakesOneSample : Prop :=
  ∀ s, Readable s → (∀ site back, s.seq ≠ .polling site back) →
    (s.sample 0 = true → exec .poll s = .next (standing (.due s.seq.back) (afterSample true 1 s))) ∧
    (s.sample 0 = false → exec .poll s = .next (afterFirstLow .alone s.seq.back s))

/-- A POLL in progress returns at the first high sample (R133), and the operation it belongs to goes on: a POLL run alone is over; after the
first POLL of a fuse write comes the final frame; after the second a WRFUSE run alone is over and a VERIFY reads back (R170, R178). Where the
sequencer stands after an operation run alone is the model's choice (log entry 11). -/
def Obligations.WaitingPollReturns : Prop :=
  ∀ s back, Readable s → s.sample 0 = true →
    (s.seq = .polling .alone back → exec .poll s = .next (standing (.due back) (afterSample true (s.pcnt + 1) s))) ∧
    (∀ owner k, s.seq = .polling (.fuseWrite owner k false) back →
      exec .poll s = .next (standing (.within (.finish owner k back) 0) (afterSample true (s.pcnt + 1) s))) ∧
    (∀ k, s.seq = .polling (.fuseWrite .write k true) back →
      exec .poll s = .next (standing (.due back) (afterSample true (s.pcnt + 1) s))) ∧
    (∀ k, s.seq = .polling (.fuseWrite .verify k true) back →
      exec .poll s = .next (standing (.within (.readBack .verify k back) 0) (afterSample true (s.pcnt + 1) s))) ∧
    (∀ k, s.seq = .polling (.fuseWrite .operate k true) back →
      exec .poll s = .next (standing (.within (.readBack .operate k back) 0) (afterSample true (s.pcnt + 1) s)))

/-- As long as the environment answers 0 and no limit is reached, every step of a POLL takes one sample and changes nothing else, for any
number of steps (R133, R134); so with `POLL_LIMIT = none` a run that answers 0 for ever stays in the POLL for ever (R223). -/
def Obligations.UnansweredPollWaits : Prop :=
  ∀ n s site back, Readable s → s.seq = .polling site back → (∀ m, s.params.pollLimit = some m → s.pcnt + n < m) →
    (∀ k, k < n → s.sample k = false) → Host.Core.run core n s = .next (afterLows n s)

/-- While it hangs in a session, `ST = Operating`, `DONE = 0`, the target is powered and has the high voltage (R223). -/
def Obligations.HungSessionKeepsTargetPowered : Prop :=
  ∀ n s site back, EngineInv s → s.seq = .polling site back → s.params.pollLimit = none → (∀ k, k < n → s.sample k = false) →
    ∃ t, Host.Core.run core n s = .next t ∧ hangs t ∧ t.fail = s.fail

/-- The bounded POLL (R134, R223, D15): with `POLL_LIMIT = some n` and `c` samples counted, `n - c` more low samples end it, the cause is
recorded unless one was, the outcome is 0 and the sequencer stands before S8. -/
def Obligations.BoundedPollGivesUp : Prop :=
  ∀ n s site back, Readable s → s.seq = .polling site back → s.params.pollLimit = some n → s.pcnt < n →
    (∀ k, k < n - s.pcnt → s.sample k = false) →
    Host.Core.run core (n - s.pcnt) s =
      .next (abandoned (afterLows (n - s.pcnt) s))

/-! ### The matcher -/

/-- RDSIG (R150): four frames, and the fourth response in RSR; an index above 2 is refused (D19), and so is LDADDR with the reserved index
3 (R99 (a)). The result stands in RSR: the model's reading (log entry 15). -/
def Obligations.SignatureByteRead : Prop :=
  (∀ n s, n.toNat ≤ 2 → Readable s →
    exec (.rdsig n) s = .next (afterFrames [(0x08, 0x4C), (n, 0x0C), (0x00, 0x68), (0x00, 0x6C)] s) ∧
    (afterFrames [(0x08, 0x4C), (n, 0x0C), (0x00, 0x68), (0x00, 0x6C)] s).rsr = byteAt s 24) ∧
  (∀ n s, 2 < n.toNat → exec (.rdsig n) s = .refused .signatureIndex) ∧
  (∀ s, exec (.ldaddr 3) s = .refused .signatureIndex)

/-- MATCH selects the first entry whose three bytes all equal the target's answers (R151, T3): twelve frames an entry tried, `FOUND`,
`DESC`, `ENT` and `SIGB` set, no cause raised, and nothing else changed. -/
def Obligations.MatchSelectsFirstEqualEntry : Prop :=
  ∀ s m e, Readable s → FirstMatch s m e →
    exec .matchDevice s = .next (withMatch m (entrySignature s m) true e (afterTries (m + 1) s))

/-- MATCH that comes to the sentinel finds nothing (R151, R221): `FOUND = 0`, UnknownDevice, `DESC` as before, and nothing else changed
but by the frames. -/
def Obligations.MatchReportsUnknownDevice : Prop :=
  ∀ s m, Readable s → NoMatch s m →
    exec .matchDevice s =
      .next (withFail (failAfter .unknownDevice s) (withMatch m (signatureAfter s m) false s.desc (afterTries m s)))

/-- A table whose first entry is the sentinel costs no frame and no line event, whatever the direction of SDO (R151 corner case (a)). -/
def Obligations.MatchOfEmptyTableSendsNothing : Prop :=
  ∀ s, (s.params.deviceTable[0]? = none ∨ ∃ e, s.params.deviceTable[0]? = some e ∧ e.sig = Signature.sentinel) →
    exec .matchDevice s = .next { s with found := false, ent := 0, fail := failAfter .unknownDevice s }

/-- The compare of MATCH is equality of all 24 bits (R152): whatever the table, a match means that the three bytes read are the entry's;
and a one-entry table matches exactly when all three bytes agree. -/
def Obligations.MatchComparesAllTwentyFourBits : Prop :=
  (∀ s t, exec .matchDevice s = .next t → t.found = true → t.sigb = t.desc.sig ∧ t.desc ∈ s.params.deviceTable) ∧
  ∀ s e, Readable s → s.params.deviceTable = [e] → e.sig ≠ Signature.sentinel →
    ∃ t, exec .matchDevice s = .next t ∧
      (t.found = true ↔ byteAt s 24 = e.sig.b0 ∧ byteAt s 56 = e.sig.b1 ∧ byteAt s 88 = e.sig.b2)

/-! ### Fuse operations -/

/-- WRFUSE.L and WRFUSE.H (R171, R172): the frames in order and the two POLLs, whose samples decide how far it comes at once: to the end,
to the first POLL with four frames sent (R170 corner case (d)), or to the second with all five. Where the sequencer stands afterwards is
the model's choice (log entry 11). -/
def Obligations.LowAndHighWriteSequences : Prop :=
  ∀ v s, Readable s →
    (s.sample 32 = true → s.sample 41 = true →
      exec (.wrfuseL v) s = .next (standing (.due s.seq.back) (afterWriteAtOnce 0x64 0x6C v s)) ∧
      exec (.wrfuseH v) s = .next (standing (.due s.seq.back) (afterWriteAtOnce 0x74 0x7C v s))) ∧
    (s.sample 32 = false →
      exec (.wrfuseL v) s = .next (afterFirstLow (.fuseWrite .write .low false) s.seq.back (afterStrobe 0x64 0x6C v s)) ∧
      exec (.wrfuseH v) s = .next (afterFirstLow (.fuseWrite .write .high false) s.seq.back (afterStrobe 0x74 0x7C v s))) ∧
    (s.sample 32 = true → s.sample 41 = false →
      exec (.wrfuseL v) s = .next (afterFirstLow (.fuseWrite .write .low true) s.seq.back (afterFifthFrame 0x64 0x6C v s)) ∧
      exec (.wrfuseH v) s = .next (afterFirstLow (.fuseWrite .write .high true) s.seq.back (afterFifthFrame 0x74 0x7C v s)))

/-- WRFUSE.E (R173), in the same three cases. Where the sequencer stands afterwards is the model's choice, and so is that run alone it sends
its frames whatever `DESC.ext` holds (log entry 11). -/
def Obligations.ExtendedWriteSequence : Prop :=
  ∀ v s, Readable s →
    (s.sample 32 = true → s.sample 41 = true →
      exec (.wrfuseE v) s = .next (standing (.due s.seq.back) (afterWriteAtOnce 0x66 0x6E v s))) ∧
    (s.sample 32 = false →
      exec (.wrfuseE v) s = .next (afterFirstLow (.fuseWrite .write .ext false) s.seq.back (afterStrobe 0x66 0x6E v s))) ∧
    (s.sample 32 = true → s.sample 41 = false →
      exec (.wrfuseE v) s = .next (afterFirstLow (.fuseWrite .write .ext true) s.seq.back (afterFifthFrame 0x66 0x6E v s)))

/-- A write that waited goes on where it stood (R170, R264): after the first POLL the final frame and the second POLL, which may wait in
its turn; after the second nothing more. Where the sequencer stands afterwards is the model's choice (log entry 11). -/
def Obligations.WaitingWriteGoesOn : Prop :=
  ∀ k s back, Readable s → s.sample 0 = true →
    (s.seq = .polling (.fuseWrite .write k false) back → s.sample 9 = true →
      Reaches s (standing (.due back) (afterSample true 1 (afterFirstPoll s)))) ∧
    (s.seq = .polling (.fuseWrite .write k false) back → s.sample 9 = false →
      Reaches s (afterFirstLow (.fuseWrite .write k true) back (afterFirstPoll s))) ∧
    (s.seq = .polling (.fuseWrite .write k true) back →
      Reaches s (standing (.due back) (afterSample true (s.pcnt + 1) s)))

/-- RDFUSE.L and RDFUSE.H (R175, R176): three frames. That the result stands in RSR and RVAL keeps its value is the model's reading (log
entry 15). -/
def Obligations.LowAndHighReadSequences : Prop :=
  ∀ s, Readable s →
    exec .rdfuseL s = .next (afterRead 0x68 0x6C s) ∧ (afterRead 0x68 0x6C s).rsr = byteAt s 16 ∧
    exec .rdfuseH s = .next (afterRead 0x7A 0x7E s) ∧ (afterRead 0x7A 0x7E s).rsr = byteAt s 16

/-- RDFUSE.E (R177). That the result stands in RSR and RVAL keeps its value is the model's reading (log entry 15), and so is that run alone
it sends its frames whatever `DESC.ext` holds (log entry 11). -/
def Obligations.ExtendedReadSequence : Prop :=
  ∀ s, Readable s → exec .rdfuseE s = .next (afterRead 0x6A 0x6E s) ∧ (afterRead 0x6A 0x6E s).rsr = byteAt s 16

/-- VERIFY.L (R178, R179): write, read back, compare; `OKL` and the cause follow from the byte read back, all eight bits of it. Where the
sequencer stands afterwards is the model's choice (log entry 11). -/
def Obligations.VerifyLowResult : Prop :=
  ∀ v s, Readable s → PollsReady s 0 →
    exec (.verifyL v) s =
      .next (standing (.due s.seq.back) (withOkl (decide (readBackAt s 0 = v))
        (withReadBack (readBackAt s 0) (failAfterCompare (decide (readBackAt s 0 = v)) s)
          (afterRead 0x68 0x6C (afterWriteAtOnce 0x64 0x6C v (withVerify .low v s))))))

/-- VERIFY.H (R178, R180). Where the sequencer stands afterwards is the model's choice (log entry 11). -/
def Obligations.VerifyHighResult : Prop :=
  ∀ v s, Readable s → PollsReady s 0 →
    exec (.verifyH v) s =
      .next (standing (.due s.seq.back) (withOkh (decide (readBackAt s 0 = v))
        (withReadBack (readBackAt s 0) (failAfterCompare (decide (readBackAt s 0 = v)) s)
          (afterRead 0x7A 0x7E (afterWriteAtOnce 0x74 0x7C v (withVerify .high v s))))))

/-- VERIFY.E (R178, R181), and its skip when a device without extended fuse has matched (R182): no frame and no line event, `OKE = 1`. The
position afterwards is the model's choice (log entry 11), and so is the skip of VERIFY.E run alone (log entry 12). -/
def Obligations.VerifyExtendedResult : Prop :=
  (∀ v s, Readable s → PollsReady s 0 → (s.found = true → s.desc.ext ≠ 0x00) →
    exec (.verifyE v) s =
      .next (standing (.due s.seq.back) (withOke (decide (readBackAt s 0 = v))
        (withReadBack (readBackAt s 0) (failAfterCompare (decide (readBackAt s 0 = v)) s)
          (afterRead 0x6A 0x6E (afterWriteAtOnce 0x66 0x6E v (withVerify .ext v s))))))) ∧
  (∀ v s, s.found = true → s.desc.ext = 0x00 → exec (.verifyE v) s = .next (withOke true s))

/-- A VERIFY waits where its write waits (R178), with `KIND` and `WVAL` set: same state, but the POLL belongs to the VERIFY. Where the
sequencer stands afterwards is the model's choice (log entry 11). -/
def Obligations.VerifyWaitsWhereWriteWaits : Prop :=
  ∀ v s t second back,
    (exec (.wrfuseL v) (withVerify .low v s) = .next t → t.seq = .polling (.fuseWrite .write .low second) back →
      exec (.verifyL v) s = .next (standing (.polling (.fuseWrite .verify .low second) back) t)) ∧
    (exec (.wrfuseH v) (withVerify .high v s) = .next t → t.seq = .polling (.fuseWrite .write .high second) back →
      exec (.verifyH v) s = .next (standing (.polling (.fuseWrite .verify .high second) back) t)) ∧
    ((s.found = true → s.desc.ext ≠ 0x00) → exec (.wrfuseE v) (withVerify .ext v s) = .next t → t.seq = .polling (.fuseWrite .write .ext second) back →
      exec (.verifyE v) s = .next (standing (.polling (.fuseWrite .verify .ext second) back) t))

/-- A VERIFY that waited goes on (R170, R178 to R181). From its first POLL: the final frame and the second POLL, which may wait in its turn
or, where one sample is all it may take, give up (R134). From its second: read back, compare with `WVAL`, set the kind's flag. Where the
sequencer stands afterwards is the model's choice (log entry 11). -/
def Obligations.WaitingVerifyEnds : Prop :=
  ∀ k s back, Readable s → s.sample 0 = true →
    (s.seq = .polling (.fuseWrite .verify k false) back → s.sample 9 = true →
      Reaches s (standing (.due back) (verified k (afterSample true 1 (afterFirstPoll s))))) ∧
    (s.seq = .polling (.fuseWrite .verify k false) back → s.sample 9 = false →
      Reaches s (afterFirstLow (.fuseWrite .verify k true) back (afterFirstPoll s))) ∧
    (s.seq = .polling (.fuseWrite .verify k true) back →
      Reaches s (standing (.due back) (verified k (afterSample true (s.pcnt + 1) s))))

/-! ### The session -/

/-- START (R190, D7): in Idle a session begins; anywhere else it has no effect. -/
def Obligations.StartBeginsSessionOnlyInIdle : Prop :=
  (∀ s, s.st = .idle → exec .start s = .next (withEvents [.start] { s with done := false, fail := .none, seq := .due .s1 })) ∧
  (∀ s, s.st ≠ .idle → exec .start s = .next s)

/-- S1 (R191): all six lines outputs, the logic lines 0, RST 1, VCC 0, in one event, whatever they were; `ST <- PoweringUp`.
That a write which changes nothing is an event too is the model's choice (log entry 7). -/
def Obligations.FirstStepSetsEveryLine : Prop :=
  ∀ s, ∃ es, exec .s1 s =
      .next (withEvents es { s with lines := sessionLines .output true false, st := .poweringUp, seq := .due .s2 }) ∧
    es.length = 1 ∧ replay es s.lines = sessionLines .output true false

/-- S2 (R192): VCC to 1, and nothing else. That the write is an event also where VCC was 1 is the model's choice (log entry 7). -/
def Obligations.SecondStepAppliesSupply : Prop :=
  ∀ s, exec .s2 s = .next (withEvents [.setLevel .vcc true]
    { s with lines := { s.lines with lvl := { s.lines.lvl with vcc := true } }, seq := .due .s3 })

/-- S3 to S6 (R193 to R196): wait and high voltage; hold; release SDO; wait. That a write which changes nothing is an event too is the
model's choice (log entry 7). -/
def Obligations.ModeEntrySteps : Prop :=
  ∀ s,
    exec .s3 s = .next (withEvents [.waitAtLeast s.params.tVccToHv, .setLevel .rst false]
      { s with lines := { s.lines with lvl := { s.lines.lvl with rst := false } }, st := .resetAsserted, seq := .due .s4 }) ∧
    exec .s4 s = .next (withEvents [.waitAtLeast s.params.tHvHold] { s with seq := .due .s5 }) ∧
    exec .s5 s = .next (withEvents [.setDir .sdo .input]
      { s with lines := { s.lines with dir := { s.lines.dir with sdo := .input } }, st := .modeEntering, seq := .due .s6 }) ∧
    exec .s6 s = .next (withEvents [.waitAtLeast s.params.tEntry] { s with seq := .due .s7 })

/-- S8 (R199): clock, instruction and data lines 0; RST 1; wait; VCC 0; SDO and the outcome untouched. That a write which
changes nothing is an event too is the model's choice (log entry 7). -/
def Obligations.TeardownStep : Prop :=
  ∀ s, exec .s8 s =
    .next (withEvents
      [.setGroup [] [(.sci, false), (.sii, false), (.sdi, false)], .setLevel .rst true, .waitAtLeast s.params.tDown, .setLevel .vcc false]
      { s with
        lines := { s.lines with lvl := { s.lines.lvl with sci := false, sdi := false, sii := false, rst := true, vcc := false } }
        st := .poweringDown
        seq := .due .s9 })

/-- S9 (R200): Idle, `DONE <- 1`, event `Done(OUTCOME)`; the outcome is then what the collaborator may read. -/
def Obligations.LastStepPublishesOutcome : Prop :=
  ∀ s, ∃ t, exec .s9 s = .next t ∧
    t = withEvents [.done s.outcome] { s with st := .idle, done := true, seq := .due .idle } ∧ published t = some s.outcome

/-- S7 with no match (R197, R153): MATCH as it runs alone, the three OK flags 0, outcome 0, no fuse frame, on to S8. -/
def Obligations.OperateWithoutMatch : Prop :=
  ∀ s m, Readable s → NoMatch s m →
    ∃ t a, exec .matchDevice { s with st := .operating } = .next a ∧ exec .s7 s = .next t ∧
      t = { a with okl := false, okh := false, oke := false, outcome := false, seq := .due .s8 } ∧ t.found = false ∧
      t.fail = failAfter .unknownDevice s

/-- S7 on a device without extended fuse whose POLLs are answered at once (R182, R183, R197, R198, T4, T6): the frames sent are MATCH's and
those of the two VERIFYs, which write the low and the high default; `OKE = 1` by the skip; the outcome is 1 exactly when both read-backs
equal the defaults, and VerifyMismatch is recorded, unless a cause was, when one does not (R222, R226). -/
def Obligations.OperateRestoresTwoFuses : Prop :=
  ∀ s m e, Readable s → FirstMatch s m e → e.ext = 0x00 →
    PollsReady s (96 * (m + 1)) → PollsReady s (96 * (m + 1) + 66) →
    ∃ t es, exec .s7 s = .next t ∧ OperateFrame s t ∧ t.st = .operating ∧ t.seq = .due .s8 ∧ t.found = true ∧ t.desc = e ∧
      t.okl = decide (readBackAt s (96 * (m + 1)) = e.low) ∧ t.okh = decide (readBackAt s (96 * (m + 1) + 66) = e.high) ∧
      t.oke = true ∧ t.outcome = (t.okl && t.okh) ∧ t.fail = failAfterCompare (t.okl && t.okh) s ∧ t.kind = .high ∧ t.wval = e.high ∧
      t.lines = atRest s.lines ∧ Added s t es ∧
      Sends s.lines es (matchFrames (m + 1) ++ verifyFrames .low e.low ++ verifyFrames .high e.high)

/-- S7 on a device with an extended fuse whose POLLs are answered at once (R183, R184, R197, R198): the frames sent are MATCH's and those of
the three VERIFYs, each kind's default written and read back before the next, whatever the earlier compares gave; VerifyMismatch is recorded,
unless a cause was, when a read-back differs (R222, R226). -/
def Obligations.OperateRestoresThreeFuses : Prop :=
  ∀ s m e, Readable s → FirstMatch s m e → e.ext ≠ 0x00 →
    PollsReady s (96 * (m + 1)) → PollsReady s (96 * (m + 1) + 66) → PollsReady s (96 * (m + 1) + 132) →
    ∃ t es, exec .s7 s = .next t ∧ OperateFrame s t ∧ t.st = .operating ∧ t.seq = .due .s8 ∧ t.found = true ∧ t.desc = e ∧
      t.okl = decide (readBackAt s (96 * (m + 1)) = e.low) ∧ t.okh = decide (readBackAt s (96 * (m + 1) + 66) = e.high) ∧
      t.oke = decide (readBackAt s (96 * (m + 1) + 132) = e.ext) ∧ t.outcome = (t.okl && t.okh && t.oke) ∧
      t.fail = failAfterCompare (t.okl && t.okh && t.oke) s ∧ t.kind = .ext ∧ t.wval = e.ext ∧ t.lines = atRest s.lines ∧
      Added s t es ∧
      Sends s.lines es (matchFrames (m + 1) ++ verifyFrames .low e.low ++ verifyFrames .high e.high ++ verifyFrames .ext e.ext)

/-- S7 is MATCH and then the VERIFYs as they run alone (R102, R184, R197): where each VERIFY, run alone from where the one before it
ended, ends without a wait, S7 ends in the same state but for the outcome and the position. That a VERIFY run alone leaves the sequencer
before S7 is the model's choice (log entry 11). -/
def Obligations.OperateIsMatchThenVerifies : Prop :=
  ∀ s a b c, s.seq = .due .s7 → exec .matchDevice { s with st := .operating } = .next a → a.found = true →
    exec (.verifyL a.desc.low) a = .next b → b.seq = .due .s7 → exec (.verifyH a.desc.high) b = .next c → c.seq = .due .s7 →
    EndsFrom c (exec .s7 s)

/-- S7 stops where one of its VERIFYs would that runs alone after those before it have ended (R197, R223): where that one waits, S7 waits in
the same state, but the POLL belongs to the session and S8 follows; where it gives up, because one sample is all it may take (R134), so
does S7. Which positions these are is the model's choice (log entry 11). -/
def Obligations.OperateWaitsWhereVerifyWaits : Prop :=
  ∀ s a b, s.seq = .due .s7 → exec .matchDevice { s with st := .operating } = .next a → a.found = true →
    exec (.verifyL a.desc.low) a = .next b →
    StopsAs .low b (exec .s7 s) ∧
    (b.seq = .due .s7 → ∀ c, exec (.verifyH a.desc.high) b = .next c →
      StopsAs .high c (exec .s7 s) ∧
      (c.seq = .due .s7 → a.desc.ext ≠ 0x00 → ∀ d, exec (.verifyE a.desc.ext) c = .next d → StopsAs .ext d (exec .s7 s)))

/-- A session goes on in S7 kind by kind, through every wait (R134, R170, R178, R182, R184, R197). From the beginning of a kind's VERIFY: to
the next kind or the outcome where both POLLs are answered at once, or to the wait, or the surrender, in the first or the second. From a wait
in the first POLL: the same with what is left. From a wait in the second: to the next kind or the outcome. -/
def Obligations.WaitingSessionGoesOn : Prop :=
  ∀ k s, Readable s →
    (s.seq = .within (.strobe k) 0 →
      (s.sample 32 = true → s.sample 41 = true →
        Reaches s (goesOn k (afterWriteAtOnce k.writeA k.writeB (kindDefault s.desc k) (withSessionVerify k s)))) ∧
      (s.sample 32 = false →
        Reaches s (afterFirstLow (.fuseWrite .operate k false) .s8
          (afterStrobe k.writeA k.writeB (kindDefault s.desc k) (withSessionVerify k s)))) ∧
      (s.sample 32 = true → s.sample 41 = false →
        Reaches s (afterFirstLow (.fuseWrite .operate k true) .s8
          (afterFifthFrame k.writeA k.writeB (kindDefault s.desc k) (withSessionVerify k s))))) ∧
    (s.seq = .polling (.fuseWrite .operate k false) .s8 → s.sample 0 = true →
      (s.sample 9 = true → Reaches s (goesOn k (afterSample true 1 (afterFirstPoll s)))) ∧
      (s.sample 9 = false → Reaches s (afterFirstLow (.fuseWrite .operate k true) .s8 (afterFirstPoll s)))) ∧
    (s.seq = .polling (.fuseWrite .operate k true) .s8 → s.sample 0 = true →
      Reaches s (goesOn k (afterSample true (s.pcnt + 1) s)))

/-! ### The sequencer -/

/-- The sequencer, statement by statement, comes from the beginning of each session step to what the step's meaning answers (R26, R73, R201):
S1 to S6, S8 and S9 to their end; S7 to its end, to the POLL it waits in, or to its surrender. -/
def Obligations.StepRunsNamedOperation : Prop :=
  ∀ s t,
    (s.seq = .due .s1 → exec .s1 s = .next t → Reaches s t) ∧ (s.seq = .due .s2 → exec .s2 s = .next t → Reaches s t) ∧
    (s.seq = .due .s3 → exec .s3 s = .next t → Reaches s t) ∧ (s.seq = .due .s4 → exec .s4 s = .next t → Reaches s t) ∧
    (s.seq = .due .s5 → exec .s5 s = .next t → Reaches s t) ∧ (s.seq = .due .s6 → exec .s6 s = .next t → Reaches s t) ∧
    (s.seq = .due .s7 → exec .s7 s = .next t → Reaches s t) ∧ (s.seq = .due .s8 → exec .s8 s = .next t → Reaches s t) ∧
    (s.seq = .due .s9 → exec .s9 s = .next t → Reaches s t)

/-- Which operation a step runs where it runs one whole (R26, R190, R133): START in Idle when it is presented, and in Idle without it
nothing but the look itself; one sample of the POLL in progress; a placed frame, after which S8 follows. The placed frame is the model's
choice (log entry 8). -/
def Obligations.PositionsNameOperations : Prop :=
  (∀ s, s.seq = .due .idle → s.startPresented = true →
    step s = exec .start { s with startIn := s.startIn.drop 1, startDraws := s.startDraws + 1 }) ∧
  (∀ s, s.seq = .due .idle → s.startPresented = false →
    step s = .next { s with startIn := s.startIn.drop 1, startDraws := s.startDraws + 1 }) ∧
  (∀ s site back, s.seq = .polling site back → step s = exec .poll s) ∧
  (∀ s cmd cw i, s.seq = .placed cmd cw → decode cmd cw = .ok i → step s = exec i { s with seq := .due .s8 })

/-- A step is one statement (D1, R73): it makes at most one line event, which is all that changes the lines; and SDI and SII move only in S7
and only while the clock is low, before and after (R135). What counts as one
statement where D1 leaves it open is the model's choice (log entry 4), and so is the placed frame, which runs whole (log entry 8). -/
def Obligations.StepIsOneStatement : Prop :=
  ∀ s t, (∀ cmd cw, s.seq ≠ .placed cmd cw) → step s = .next t →
    (∃ es, Added s t es ∧ es.length ≤ 1 ∧ t.lines = replay es s.lines) ∧
    (EngineInv s → beforeFirstWrites s.seq = false → (t.lines.lvl.sdi, t.lines.lvl.sii) ≠ (s.lines.lvl.sdi, s.lines.lvl.sii) →
      s.st = .operating ∧ s.lines.lvl.sci = false ∧ t.lines.lvl.sci = false)

/-- A placed word that the host asks about is the next operation (log entry 8). -/
def Obligations.PlacedWordRunsNext : Prop :=
  ∀ (s : State) (w : Nat) (i : Instr), w < 65536 → decodeTableWord 16 w = some i →
    step (s.withFetchWord 16 w) = exec i { s with lines := sessionLines .input false true, st := .operating, seq := .due .s8 }

/-! ### Invariants -/

/-- What reset fixes (R39, R250). The spec's own decision (D6). -/
def Obligations.ResetState : Prop :=
  State.reset.st = .idle ∧ State.reset.seq = .due .idle ∧ State.reset.done = false ∧ State.reset.fail = .none

/-- The invariant holds after reset. -/
def Obligations.InvariantHoldsAtReset : Prop := EngineInv State.reset

/-- Every step keeps the invariant, whatever the environment answers, the table holds and the poll limit is. -/
def Obligations.EveryStepKeepsInvariant : Prop := ∀ s t, EngineInv s → step s = .next t → EngineInv t

/-- From a state of a session every step has a next state: no session is ever refused (R220, R224, R41). The host's placed frame, which no
session contains, is set aside. -/
def Obligations.SessionNeverStops : Prop :=
  ∀ s, EngineInv s → (∀ cmd cw, s.seq ≠ .placed cmd cw) → ∃ t, step s = .next t

/-- The line-control bits change only by line events, and every one of those is in the trace (R11, R21, R24). -/
def Obligations.LinesChangeOnlyByEvents : Prop :=
  ∀ i s t, exec i s = .next t → ∃ es, Added s t es ∧ t.lines = replay es s.lines

/-- From S1's writes to the session's end the high voltage is never on the reset pin of an unpowered target, before and after every line
event (V9 corner case (d), R23, R203). -/
def Obligations.HighVoltageOnlyOnPoweredTarget : Prop :=
  ∀ s t, EngineInv s → beforeFirstWrites s.seq = false → step s = .next t →
    pinsSafe s.lines = true ∧ pinsSafe t.lines = true

/-- No operation changes the parameters (R37, R61). -/
def Obligations.ParametersNeverChange : Prop := ∀ i s t, exec i s = .next t → t.params = s.params

/-- The session state moves only along the cycle of R25 and R201. -/
def Obligations.SessionStateFollowsTable : Prop :=
  ∀ s t, EngineInv s → step s = .next t → (s.st, t.st) ∈ stTransitions

/-- SDO is sampled only in Operating: not in S1 to S6, not in S8, S9 and not in Idle (R196, R261, V9 corner case (c)). -/
def Obligations.SamplesOnlyWhileOperating : Prop :=
  ∀ s t es, EngineInv s → step s = .next t → Added s t es → (s.st ≠ .operating ∨ t.st ≠ .operating) → noSample es

/-! ### Whole sessions -/

/-- A session on a device the table holds, however long each POLL is kept waiting within its limit (R201, R204, R206, T6, P2, P5): once the
Start is presented it comes to its end; the frames it sent are MATCH's and those of each VERIFY with the descriptor's default; the target is
unpowered; the outcome says whether every read-back equalled the default, and the cause is VerifyMismatch when one did not. -/
def Obligations.RestoringSessionEnds : Prop :=
  ∀ s m e d1 d2 d3, EngineInv s → s.seq = .due .idle → s.startPresented = true → FirstMatch s m e →
    VerifyAnswered s (96 * (m + 1)) d1 → VerifyAnswered s (verifyEnd (96 * (m + 1)) d1) d2 →
    (e.ext ≠ 0x00 → VerifyAnswered s (verifyEnd (verifyEnd (96 * (m + 1)) d1) d2) d3) →
    ∃ t es ok, Reaches s t ∧ sessionEnded t ∧ t.seq = .due .idle ∧ t.lines = sessionLines .input true false ∧ Added s t es ∧
      Sends s.lines es (matchFrames (m + 1) ++ verifyFrames .low e.low ++ verifyFrames .high e.high ++
        (if e.ext = 0x00 then [] else verifyFrames .ext e.ext)) ∧
      (ok = true ↔ lateReadBack s (96 * (m + 1)) d1 = e.low ∧ lateReadBack s (verifyEnd (96 * (m + 1)) d1) d2 = e.high ∧
        (e.ext ≠ 0x00 → lateReadBack s (verifyEnd (verifyEnd (96 * (m + 1)) d1) d2) d3 = e.ext)) ∧
      published t = some ok ∧ t.fail = (if ok then .none else .verifyMismatch)

/-- A session on a device the table does not hold (R153, R221, T7): once the Start is presented it comes to its end with outcome 0 and the
cause UnknownDevice; the frames it sent are the twelve for each real entry (D10), and no fuse frame. -/
def Obligations.UnknownDeviceSessionFails : Prop :=
  ∀ s m, EngineInv s → s.seq = .due .idle → s.startPresented = true → NoMatch s m →
    ∃ t es, Reaches s t ∧ sessionEnded t ∧ published t = some false ∧ t.fail = .unknownDevice ∧
      t.lines = sessionLines .input true false ∧ Added s t es ∧ Sends s.lines es (matchFrames m)
end

