-- ==== Sys2Proof/Laws/Encoding.lean ====
section
/-! SUPPORT. Words and their bytes, and what a decoded operation says about the word it came from. -/

namespace Sys2Proof.Laws

/-- A command word is its two bytes (R94). -/
theorem commandWord_bytes (cw : CommandWord) : commandWord (dataByte cw) (insByte cw) = cw := by
  unfold commandWord dataByte insByte
  ext i hi
  simp only [BitVec.getElem_append, BitVec.getElem_extractLsb']
  split
  · simp [BitVec.getLsbD_eq_getElem hi]
  · have : 8 + (i - 8) = i := by omega
    simp [this, BitVec.getLsbD_eq_getElem hi]

@[simp] theorem dataByte_commandWord (d i : Byte) : dataByte (commandWord d i) = d := by
  unfold commandWord dataByte
  ext j hj
  have h := BitVec.getLsbD_append (x := i) (y := d) (i := j)
  simp only [BitVec.getElem_extractLsb', Nat.zero_add]
  exact h.trans (by simp [hj, BitVec.getLsbD_eq_getElem])

@[simp] theorem insByte_commandWord (d i : Byte) : insByte (commandWord d i) = i := by
  unfold commandWord insByte
  ext j hj
  have h := BitVec.getLsbD_append (x := i) (y := d) (i := 8 + j)
  simp only [BitVec.getElem_extractLsb']
  exact h.trans (by simp [BitVec.getLsbD_eq_getElem hj])

/-- A byte whose upper six bits are 0 is its two-bit index, zero-extended. -/
theorem index_byte : ∀ d : Byte, d.extractLsb' 2 6 = 0#6 → (d.extractLsb' 0 2).setWidth 8 = d := by decide

/-- The role a frame is given sends exactly that frame's bytes (R95). -/
theorem frameBytes_frameRole (cmd : LoadedCommand) (d i : Byte) : frameBytes (frameRole cmd d i) = some (d, i) := by
  unfold frameRole
  split
  case h_2 => rfl
  case h_1 r h =>
    have hm := List.mem_of_find?_eq_some h
    have hf := List.find?_some h
    simp only [frameTable, List.mem_cons, List.not_mem_nil, or_false] at hm
    rcases hm with rfl | rfl | rfl | rfl | rfl | rfl | rfl | rfl | rfl | rfl | rfl | rfl | rfl | rfl | rfl | rfl | rfl | rfl |
      rfl | rfl <;>
      simp only [FrameRow.fits, DataPattern.fits, Bool.and_eq_true, beq_iff_eq] at hf <;>
      simp [frameBytes, hf]
    exact index_byte d hf.2

/-- A decoded operation is well formed, and its frame is the word it was read from. -/
theorem decode_ok (cmd : LoadedCommand) (cw : CommandWord) (i : Instr) (h : decode cmd cw = .ok i) :
    i.wellFormed = true ∧ frameWord i = some cw := by
  unfold decode at h
  split at h
  case isTrue hw =>
    cases h
    exact ⟨hw, by simp [frameWord, frameBytes_frameRole, commandWord_bytes]⟩
  case isFalse => cases h

end Sys2Proof.Laws
end

