-- ==== Sys2Proof/Laws/State.lean ====
section
/-! SUPPORT. One lemma per field per update, each true by unfolding. -/

namespace Sys2Proof.Laws

open Sys2Proof.Machine

/-! ### emit -/

@[simp] theorem emit_params (e : Event) (s : State) : (emit e s).params = s.params := rfl
@[simp] theorem emit_lines (e : Event) (s : State) : (emit e s).lines = e.apply s.lines := rfl
@[simp] theorem emit_st (e : Event) (s : State) : (emit e s).st = s.st := rfl
@[simp] theorem emit_seq (e : Event) (s : State) : (emit e s).seq = s.seq := rfl
@[simp] theorem emit_dsr (e : Event) (s : State) : (emit e s).dsr = s.dsr := rfl
@[simp] theorem emit_isr (e : Event) (s : State) : (emit e s).isr = s.isr := rfl
@[simp] theorem emit_rsr (e : Event) (s : State) : (emit e s).rsr = s.rsr := rfl
@[simp] theorem emit_slot (e : Event) (s : State) : (emit e s).slot = s.slot := rfl
@[simp] theorem emit_ent (e : Event) (s : State) : (emit e s).ent = s.ent := rfl
@[simp] theorem emit_sigb (e : Event) (s : State) : (emit e s).sigb = s.sigb := rfl
@[simp] theorem emit_found (e : Event) (s : State) : (emit e s).found = s.found := rfl
@[simp] theorem emit_desc (e : Event) (s : State) : (emit e s).desc = s.desc := rfl
@[simp] theorem emit_kind (e : Event) (s : State) : (emit e s).kind = s.kind := rfl
@[simp] theorem emit_wval (e : Event) (s : State) : (emit e s).wval = s.wval := rfl
@[simp] theorem emit_rval (e : Event) (s : State) : (emit e s).rval = s.rval := rfl
@[simp] theorem emit_okl (e : Event) (s : State) : (emit e s).okl = s.okl := rfl
@[simp] theorem emit_okh (e : Event) (s : State) : (emit e s).okh = s.okh := rfl
@[simp] theorem emit_oke (e : Event) (s : State) : (emit e s).oke = s.oke := rfl
@[simp] theorem emit_outcome (e : Event) (s : State) : (emit e s).outcome = s.outcome := rfl
@[simp] theorem emit_done (e : Event) (s : State) : (emit e s).done = s.done := rfl
@[simp] theorem emit_fail (e : Event) (s : State) : (emit e s).fail = s.fail := rfl
@[simp] theorem emit_pcnt (e : Event) (s : State) : (emit e s).pcnt = s.pcnt := rfl
@[simp] theorem emit_sdoIn (e : Event) (s : State) : (emit e s).sdoIn = s.sdoIn := rfl
@[simp] theorem emit_sdoDraws (e : Event) (s : State) : (emit e s).sdoDraws = s.sdoDraws := rfl
@[simp] theorem emit_startIn (e : Event) (s : State) : (emit e s).startIn = s.startIn := rfl
@[simp] theorem emit_startDraws (e : Event) (s : State) : (emit e s).startDraws = s.startDraws := rfl
@[simp] theorem emit_trace (e : Event) (s : State) : (emit e s).trace = e :: s.trace := rfl

/-! ### readSdo -/

@[simp] theorem readSdo_params (s : State) : (readSdo s).params = s.params := rfl
@[simp] theorem readSdo_lines (s : State) : (readSdo s).lines = s.lines := rfl
@[simp] theorem readSdo_st (s : State) : (readSdo s).st = s.st := rfl
@[simp] theorem readSdo_seq (s : State) : (readSdo s).seq = s.seq := rfl
@[simp] theorem readSdo_dsr (s : State) : (readSdo s).dsr = s.dsr := rfl
@[simp] theorem readSdo_isr (s : State) : (readSdo s).isr = s.isr := rfl
@[simp] theorem readSdo_rsr (s : State) : (readSdo s).rsr = s.rsr := rfl
@[simp] theorem readSdo_slot (s : State) : (readSdo s).slot = s.slot := rfl
@[simp] theorem readSdo_ent (s : State) : (readSdo s).ent = s.ent := rfl
@[simp] theorem readSdo_sigb (s : State) : (readSdo s).sigb = s.sigb := rfl
@[simp] theorem readSdo_found (s : State) : (readSdo s).found = s.found := rfl
@[simp] theorem readSdo_desc (s : State) : (readSdo s).desc = s.desc := rfl
@[simp] theorem readSdo_kind (s : State) : (readSdo s).kind = s.kind := rfl
@[simp] theorem readSdo_wval (s : State) : (readSdo s).wval = s.wval := rfl
@[simp] theorem readSdo_rval (s : State) : (readSdo s).rval = s.rval := rfl
@[simp] theorem readSdo_okl (s : State) : (readSdo s).okl = s.okl := rfl
@[simp] theorem readSdo_okh (s : State) : (readSdo s).okh = s.okh := rfl
@[simp] theorem readSdo_oke (s : State) : (readSdo s).oke = s.oke := rfl
@[simp] theorem readSdo_outcome (s : State) : (readSdo s).outcome = s.outcome := rfl
@[simp] theorem readSdo_done (s : State) : (readSdo s).done = s.done := rfl
@[simp] theorem readSdo_fail (s : State) : (readSdo s).fail = s.fail := rfl
@[simp] theorem readSdo_pcnt (s : State) : (readSdo s).pcnt = s.pcnt := rfl
@[simp] theorem readSdo_sdoIn (s : State) : (readSdo s).sdoIn = s.sdoIn.drop 1 := rfl
@[simp] theorem readSdo_sdoDraws (s : State) : (readSdo s).sdoDraws = s.sdoDraws + 1 := rfl
@[simp] theorem readSdo_startIn (s : State) : (readSdo s).startIn = s.startIn := rfl
@[simp] theorem readSdo_startDraws (s : State) : (readSdo s).startDraws = s.startDraws := rfl
@[simp] theorem readSdo_trace (s : State) : (readSdo s).trace = .readLevel .sdo (s.sample 0) :: s.trace := rfl

/-! ### moveTo -/

@[simp] theorem moveTo_params (q : Seq) (s : State) : (moveTo q s).params = s.params := rfl
@[simp] theorem moveTo_lines (q : Seq) (s : State) : (moveTo q s).lines = s.lines := rfl
@[simp] theorem moveTo_st (q : Seq) (s : State) : (moveTo q s).st = s.st := rfl
@[simp] theorem moveTo_seq (q : Seq) (s : State) : (moveTo q s).seq = q := rfl
@[simp] theorem moveTo_dsr (q : Seq) (s : State) : (moveTo q s).dsr = s.dsr := rfl
@[simp] theorem moveTo_isr (q : Seq) (s : State) : (moveTo q s).isr = s.isr := rfl
@[simp] theorem moveTo_rsr (q : Seq) (s : State) : (moveTo q s).rsr = s.rsr := rfl
@[simp] theorem moveTo_slot (q : Seq) (s : State) : (moveTo q s).slot = s.slot := rfl
@[simp] theorem moveTo_ent (q : Seq) (s : State) : (moveTo q s).ent = s.ent := rfl
@[simp] theorem moveTo_sigb (q : Seq) (s : State) : (moveTo q s).sigb = s.sigb := rfl
@[simp] theorem moveTo_found (q : Seq) (s : State) : (moveTo q s).found = s.found := rfl
@[simp] theorem moveTo_desc (q : Seq) (s : State) : (moveTo q s).desc = s.desc := rfl
@[simp] theorem moveTo_kind (q : Seq) (s : State) : (moveTo q s).kind = s.kind := rfl
@[simp] theorem moveTo_wval (q : Seq) (s : State) : (moveTo q s).wval = s.wval := rfl
@[simp] theorem moveTo_rval (q : Seq) (s : State) : (moveTo q s).rval = s.rval := rfl
@[simp] theorem moveTo_okl (q : Seq) (s : State) : (moveTo q s).okl = s.okl := rfl
@[simp] theorem moveTo_okh (q : Seq) (s : State) : (moveTo q s).okh = s.okh := rfl
@[simp] theorem moveTo_oke (q : Seq) (s : State) : (moveTo q s).oke = s.oke := rfl
@[simp] theorem moveTo_outcome (q : Seq) (s : State) : (moveTo q s).outcome = s.outcome := rfl
@[simp] theorem moveTo_done (q : Seq) (s : State) : (moveTo q s).done = s.done := rfl
@[simp] theorem moveTo_fail (q : Seq) (s : State) : (moveTo q s).fail = s.fail := rfl
@[simp] theorem moveTo_pcnt (q : Seq) (s : State) : (moveTo q s).pcnt = s.pcnt := rfl
@[simp] theorem moveTo_sdoIn (q : Seq) (s : State) : (moveTo q s).sdoIn = s.sdoIn := rfl
@[simp] theorem moveTo_sdoDraws (q : Seq) (s : State) : (moveTo q s).sdoDraws = s.sdoDraws := rfl
@[simp] theorem moveTo_startIn (q : Seq) (s : State) : (moveTo q s).startIn = s.startIn := rfl
@[simp] theorem moveTo_startDraws (q : Seq) (s : State) : (moveTo q s).startDraws = s.startDraws := rfl
@[simp] theorem moveTo_trace (q : Seq) (s : State) : (moveTo q s).trace = s.trace := rfl

/-! ### goTo -/

@[simp] theorem goTo_params (p : SessionStep) (s : State) : (goTo p s).params = s.params := rfl
@[simp] theorem goTo_lines (p : SessionStep) (s : State) : (goTo p s).lines = s.lines := rfl
@[simp] theorem goTo_st (p : SessionStep) (s : State) : (goTo p s).st = s.st := rfl
@[simp] theorem goTo_seq (p : SessionStep) (s : State) : (goTo p s).seq = .due p := rfl
@[simp] theorem goTo_dsr (p : SessionStep) (s : State) : (goTo p s).dsr = s.dsr := rfl
@[simp] theorem goTo_isr (p : SessionStep) (s : State) : (goTo p s).isr = s.isr := rfl
@[simp] theorem goTo_rsr (p : SessionStep) (s : State) : (goTo p s).rsr = s.rsr := rfl
@[simp] theorem goTo_slot (p : SessionStep) (s : State) : (goTo p s).slot = s.slot := rfl
@[simp] theorem goTo_ent (p : SessionStep) (s : State) : (goTo p s).ent = s.ent := rfl
@[simp] theorem goTo_sigb (p : SessionStep) (s : State) : (goTo p s).sigb = s.sigb := rfl
@[simp] theorem goTo_found (p : SessionStep) (s : State) : (goTo p s).found = s.found := rfl
@[simp] theorem goTo_desc (p : SessionStep) (s : State) : (goTo p s).desc = s.desc := rfl
@[simp] theorem goTo_kind (p : SessionStep) (s : State) : (goTo p s).kind = s.kind := rfl
@[simp] theorem goTo_wval (p : SessionStep) (s : State) : (goTo p s).wval = s.wval := rfl
@[simp] theorem goTo_rval (p : SessionStep) (s : State) : (goTo p s).rval = s.rval := rfl
@[simp] theorem goTo_okl (p : SessionStep) (s : State) : (goTo p s).okl = s.okl := rfl
@[simp] theorem goTo_okh (p : SessionStep) (s : State) : (goTo p s).okh = s.okh := rfl
@[simp] theorem goTo_oke (p : SessionStep) (s : State) : (goTo p s).oke = s.oke := rfl
@[simp] theorem goTo_outcome (p : SessionStep) (s : State) : (goTo p s).outcome = s.outcome := rfl
@[simp] theorem goTo_done (p : SessionStep) (s : State) : (goTo p s).done = s.done := rfl
@[simp] theorem goTo_fail (p : SessionStep) (s : State) : (goTo p s).fail = s.fail := rfl
@[simp] theorem goTo_pcnt (p : SessionStep) (s : State) : (goTo p s).pcnt = s.pcnt := rfl
@[simp] theorem goTo_sdoIn (p : SessionStep) (s : State) : (goTo p s).sdoIn = s.sdoIn := rfl
@[simp] theorem goTo_sdoDraws (p : SessionStep) (s : State) : (goTo p s).sdoDraws = s.sdoDraws := rfl
@[simp] theorem goTo_startIn (p : SessionStep) (s : State) : (goTo p s).startIn = s.startIn := rfl
@[simp] theorem goTo_startDraws (p : SessionStep) (s : State) : (goTo p s).startDraws = s.startDraws := rfl
@[simp] theorem goTo_trace (p : SessionStep) (s : State) : (goTo p s).trace = s.trace := rfl

/-! ### lookForStart -/

@[simp] theorem lookForStart_params (s : State) : (lookForStart s).params = s.params := rfl
@[simp] theorem lookForStart_lines (s : State) : (lookForStart s).lines = s.lines := rfl
@[simp] theorem lookForStart_st (s : State) : (lookForStart s).st = s.st := rfl
@[simp] theorem lookForStart_seq (s : State) : (lookForStart s).seq = s.seq := rfl
@[simp] theorem lookForStart_dsr (s : State) : (lookForStart s).dsr = s.dsr := rfl
@[simp] theorem lookForStart_isr (s : State) : (lookForStart s).isr = s.isr := rfl
@[simp] theorem lookForStart_rsr (s : State) : (lookForStart s).rsr = s.rsr := rfl
@[simp] theorem lookForStart_slot (s : State) : (lookForStart s).slot = s.slot := rfl
@[simp] theorem lookForStart_ent (s : State) : (lookForStart s).ent = s.ent := rfl
@[simp] theorem lookForStart_sigb (s : State) : (lookForStart s).sigb = s.sigb := rfl
@[simp] theorem lookForStart_found (s : State) : (lookForStart s).found = s.found := rfl
@[simp] theorem lookForStart_desc (s : State) : (lookForStart s).desc = s.desc := rfl
@[simp] theorem lookForStart_kind (s : State) : (lookForStart s).kind = s.kind := rfl
@[simp] theorem lookForStart_wval (s : State) : (lookForStart s).wval = s.wval := rfl
@[simp] theorem lookForStart_rval (s : State) : (lookForStart s).rval = s.rval := rfl
@[simp] theorem lookForStart_okl (s : State) : (lookForStart s).okl = s.okl := rfl
@[simp] theorem lookForStart_okh (s : State) : (lookForStart s).okh = s.okh := rfl
@[simp] theorem lookForStart_oke (s : State) : (lookForStart s).oke = s.oke := rfl
@[simp] theorem lookForStart_outcome (s : State) : (lookForStart s).outcome = s.outcome := rfl
@[simp] theorem lookForStart_done (s : State) : (lookForStart s).done = s.done := rfl
@[simp] theorem lookForStart_fail (s : State) : (lookForStart s).fail = s.fail := rfl
@[simp] theorem lookForStart_pcnt (s : State) : (lookForStart s).pcnt = s.pcnt := rfl
@[simp] theorem lookForStart_sdoIn (s : State) : (lookForStart s).sdoIn = s.sdoIn := rfl
@[simp] theorem lookForStart_sdoDraws (s : State) : (lookForStart s).sdoDraws = s.sdoDraws := rfl
@[simp] theorem lookForStart_startIn (s : State) : (lookForStart s).startIn = s.startIn.drop 1 := rfl
@[simp] theorem lookForStart_startDraws (s : State) : (lookForStart s).startDraws = s.startDraws + 1 := rfl
@[simp] theorem lookForStart_trace (s : State) : (lookForStart s).trace = s.trace := rfl

/-! ### skipExt -/

@[simp] theorem skipExt_params (s : State) : (skipExt s).params = s.params := rfl
@[simp] theorem skipExt_lines (s : State) : (skipExt s).lines = s.lines := rfl
@[simp] theorem skipExt_st (s : State) : (skipExt s).st = s.st := rfl
@[simp] theorem skipExt_seq (s : State) : (skipExt s).seq = s.seq := rfl
@[simp] theorem skipExt_dsr (s : State) : (skipExt s).dsr = s.dsr := rfl
@[simp] theorem skipExt_isr (s : State) : (skipExt s).isr = s.isr := rfl
@[simp] theorem skipExt_rsr (s : State) : (skipExt s).rsr = s.rsr := rfl
@[simp] theorem skipExt_slot (s : State) : (skipExt s).slot = s.slot := rfl
@[simp] theorem skipExt_ent (s : State) : (skipExt s).ent = s.ent := rfl
@[simp] theorem skipExt_sigb (s : State) : (skipExt s).sigb = s.sigb := rfl
@[simp] theorem skipExt_found (s : State) : (skipExt s).found = s.found := rfl
@[simp] theorem skipExt_desc (s : State) : (skipExt s).desc = s.desc := rfl
@[simp] theorem skipExt_kind (s : State) : (skipExt s).kind = s.kind := rfl
@[simp] theorem skipExt_wval (s : State) : (skipExt s).wval = s.wval := rfl
@[simp] theorem skipExt_rval (s : State) : (skipExt s).rval = s.rval := rfl
@[simp] theorem skipExt_okl (s : State) : (skipExt s).okl = s.okl := rfl
@[simp] theorem skipExt_okh (s : State) : (skipExt s).okh = s.okh := rfl
@[simp] theorem skipExt_oke (s : State) : (skipExt s).oke = true := rfl
@[simp] theorem skipExt_outcome (s : State) : (skipExt s).outcome = s.outcome := rfl
@[simp] theorem skipExt_done (s : State) : (skipExt s).done = s.done := rfl
@[simp] theorem skipExt_fail (s : State) : (skipExt s).fail = s.fail := rfl
@[simp] theorem skipExt_pcnt (s : State) : (skipExt s).pcnt = s.pcnt := rfl
@[simp] theorem skipExt_sdoIn (s : State) : (skipExt s).sdoIn = s.sdoIn := rfl
@[simp] theorem skipExt_sdoDraws (s : State) : (skipExt s).sdoDraws = s.sdoDraws := rfl
@[simp] theorem skipExt_startIn (s : State) : (skipExt s).startIn = s.startIn := rfl
@[simp] theorem skipExt_startDraws (s : State) : (skipExt s).startDraws = s.startDraws := rfl
@[simp] theorem skipExt_trace (s : State) : (skipExt s).trace = s.trace := rfl

/-! ### clearOks -/

@[simp] theorem clearOks_params (s : State) : (clearOks s).params = s.params := rfl
@[simp] theorem clearOks_lines (s : State) : (clearOks s).lines = s.lines := rfl
@[simp] theorem clearOks_st (s : State) : (clearOks s).st = s.st := rfl
@[simp] theorem clearOks_seq (s : State) : (clearOks s).seq = s.seq := rfl
@[simp] theorem clearOks_dsr (s : State) : (clearOks s).dsr = s.dsr := rfl
@[simp] theorem clearOks_isr (s : State) : (clearOks s).isr = s.isr := rfl
@[simp] theorem clearOks_rsr (s : State) : (clearOks s).rsr = s.rsr := rfl
@[simp] theorem clearOks_slot (s : State) : (clearOks s).slot = s.slot := rfl
@[simp] theorem clearOks_ent (s : State) : (clearOks s).ent = s.ent := rfl
@[simp] theorem clearOks_sigb (s : State) : (clearOks s).sigb = s.sigb := rfl
@[simp] theorem clearOks_found (s : State) : (clearOks s).found = s.found := rfl
@[simp] theorem clearOks_desc (s : State) : (clearOks s).desc = s.desc := rfl
@[simp] theorem clearOks_kind (s : State) : (clearOks s).kind = s.kind := rfl
@[simp] theorem clearOks_wval (s : State) : (clearOks s).wval = s.wval := rfl
@[simp] theorem clearOks_rval (s : State) : (clearOks s).rval = s.rval := rfl
@[simp] theorem clearOks_okl (s : State) : (clearOks s).okl = false := rfl
@[simp] theorem clearOks_okh (s : State) : (clearOks s).okh = false := rfl
@[simp] theorem clearOks_oke (s : State) : (clearOks s).oke = false := rfl
@[simp] theorem clearOks_outcome (s : State) : (clearOks s).outcome = s.outcome := rfl
@[simp] theorem clearOks_done (s : State) : (clearOks s).done = s.done := rfl
@[simp] theorem clearOks_fail (s : State) : (clearOks s).fail = s.fail := rfl
@[simp] theorem clearOks_pcnt (s : State) : (clearOks s).pcnt = s.pcnt := rfl
@[simp] theorem clearOks_sdoIn (s : State) : (clearOks s).sdoIn = s.sdoIn := rfl
@[simp] theorem clearOks_sdoDraws (s : State) : (clearOks s).sdoDraws = s.sdoDraws := rfl
@[simp] theorem clearOks_startIn (s : State) : (clearOks s).startIn = s.startIn := rfl
@[simp] theorem clearOks_startDraws (s : State) : (clearOks s).startDraws = s.startDraws := rfl
@[simp] theorem clearOks_trace (s : State) : (clearOks s).trace = s.trace := rfl

/-! ### settleOutcome -/

@[simp] theorem settleOutcome_params (s : State) : (settleOutcome s).params = s.params := rfl
@[simp] theorem settleOutcome_lines (s : State) : (settleOutcome s).lines = s.lines := rfl
@[simp] theorem settleOutcome_st (s : State) : (settleOutcome s).st = s.st := rfl
@[simp] theorem settleOutcome_seq (s : State) : (settleOutcome s).seq = s.seq := rfl
@[simp] theorem settleOutcome_dsr (s : State) : (settleOutcome s).dsr = s.dsr := rfl
@[simp] theorem settleOutcome_isr (s : State) : (settleOutcome s).isr = s.isr := rfl
@[simp] theorem settleOutcome_rsr (s : State) : (settleOutcome s).rsr = s.rsr := rfl
@[simp] theorem settleOutcome_slot (s : State) : (settleOutcome s).slot = s.slot := rfl
@[simp] theorem settleOutcome_ent (s : State) : (settleOutcome s).ent = s.ent := rfl
@[simp] theorem settleOutcome_sigb (s : State) : (settleOutcome s).sigb = s.sigb := rfl
@[simp] theorem settleOutcome_found (s : State) : (settleOutcome s).found = s.found := rfl
@[simp] theorem settleOutcome_desc (s : State) : (settleOutcome s).desc = s.desc := rfl
@[simp] theorem settleOutcome_kind (s : State) : (settleOutcome s).kind = s.kind := rfl
@[simp] theorem settleOutcome_wval (s : State) : (settleOutcome s).wval = s.wval := rfl
@[simp] theorem settleOutcome_rval (s : State) : (settleOutcome s).rval = s.rval := rfl
@[simp] theorem settleOutcome_okl (s : State) : (settleOutcome s).okl = s.okl := rfl
@[simp] theorem settleOutcome_okh (s : State) : (settleOutcome s).okh = s.okh := rfl
@[simp] theorem settleOutcome_oke (s : State) : (settleOutcome s).oke = s.oke := rfl
@[simp] theorem settleOutcome_outcome (s : State) : (settleOutcome s).outcome = (s.found && s.okl && s.okh && s.oke) := rfl
@[simp] theorem settleOutcome_done (s : State) : (settleOutcome s).done = s.done := rfl
@[simp] theorem settleOutcome_fail (s : State) : (settleOutcome s).fail = s.fail := rfl
@[simp] theorem settleOutcome_pcnt (s : State) : (settleOutcome s).pcnt = s.pcnt := rfl
@[simp] theorem settleOutcome_sdoIn (s : State) : (settleOutcome s).sdoIn = s.sdoIn := rfl
@[simp] theorem settleOutcome_sdoDraws (s : State) : (settleOutcome s).sdoDraws = s.sdoDraws := rfl
@[simp] theorem settleOutcome_startIn (s : State) : (settleOutcome s).startIn = s.startIn := rfl
@[simp] theorem settleOutcome_startDraws (s : State) : (settleOutcome s).startDraws = s.startDraws := rfl
@[simp] theorem settleOutcome_trace (s : State) : (settleOutcome s).trace = s.trace := rfl

/-! ### matched -/

@[simp] theorem matched_params (e : Descriptor) (s : State) : (matched e s).params = s.params := rfl
@[simp] theorem matched_lines (e : Descriptor) (s : State) : (matched e s).lines = s.lines := rfl
@[simp] theorem matched_st (e : Descriptor) (s : State) : (matched e s).st = s.st := rfl
@[simp] theorem matched_seq (e : Descriptor) (s : State) : (matched e s).seq = s.seq := rfl
@[simp] theorem matched_dsr (e : Descriptor) (s : State) : (matched e s).dsr = s.dsr := rfl
@[simp] theorem matched_isr (e : Descriptor) (s : State) : (matched e s).isr = s.isr := rfl
@[simp] theorem matched_rsr (e : Descriptor) (s : State) : (matched e s).rsr = s.rsr := rfl
@[simp] theorem matched_slot (e : Descriptor) (s : State) : (matched e s).slot = s.slot := rfl
@[simp] theorem matched_ent (e : Descriptor) (s : State) : (matched e s).ent = s.ent := rfl
@[simp] theorem matched_sigb (e : Descriptor) (s : State) : (matched e s).sigb = s.sigb := rfl
@[simp] theorem matched_found (e : Descriptor) (s : State) : (matched e s).found = true := rfl
@[simp] theorem matched_desc (e : Descriptor) (s : State) : (matched e s).desc = e := rfl
@[simp] theorem matched_kind (e : Descriptor) (s : State) : (matched e s).kind = s.kind := rfl
@[simp] theorem matched_wval (e : Descriptor) (s : State) : (matched e s).wval = s.wval := rfl
@[simp] theorem matched_rval (e : Descriptor) (s : State) : (matched e s).rval = s.rval := rfl
@[simp] theorem matched_okl (e : Descriptor) (s : State) : (matched e s).okl = s.okl := rfl
@[simp] theorem matched_okh (e : Descriptor) (s : State) : (matched e s).okh = s.okh := rfl
@[simp] theorem matched_oke (e : Descriptor) (s : State) : (matched e s).oke = s.oke := rfl
@[simp] theorem matched_outcome (e : Descriptor) (s : State) : (matched e s).outcome = s.outcome := rfl
@[simp] theorem matched_done (e : Descriptor) (s : State) : (matched e s).done = s.done := rfl
@[simp] theorem matched_fail (e : Descriptor) (s : State) : (matched e s).fail = s.fail := rfl
@[simp] theorem matched_pcnt (e : Descriptor) (s : State) : (matched e s).pcnt = s.pcnt := rfl
@[simp] theorem matched_sdoIn (e : Descriptor) (s : State) : (matched e s).sdoIn = s.sdoIn := rfl
@[simp] theorem matched_sdoDraws (e : Descriptor) (s : State) : (matched e s).sdoDraws = s.sdoDraws := rfl
@[simp] theorem matched_startIn (e : Descriptor) (s : State) : (matched e s).startIn = s.startIn := rfl
@[simp] theorem matched_startDraws (e : Descriptor) (s : State) : (matched e s).startDraws = s.startDraws := rfl
@[simp] theorem matched_trace (e : Descriptor) (s : State) : (matched e s).trace = s.trace := rfl

/-! ### beginVerify -/

@[simp] theorem beginVerify_params (k : Kind) (v : Byte) (s : State) : (beginVerify k v s).params = s.params := rfl
@[simp] theorem beginVerify_lines (k : Kind) (v : Byte) (s : State) : (beginVerify k v s).lines = s.lines := rfl
@[simp] theorem beginVerify_st (k : Kind) (v : Byte) (s : State) : (beginVerify k v s).st = s.st := rfl
@[simp] theorem beginVerify_seq (k : Kind) (v : Byte) (s : State) : (beginVerify k v s).seq = s.seq := rfl
@[simp] theorem beginVerify_dsr (k : Kind) (v : Byte) (s : State) : (beginVerify k v s).dsr = s.dsr := rfl
@[simp] theorem beginVerify_isr (k : Kind) (v : Byte) (s : State) : (beginVerify k v s).isr = s.isr := rfl
@[simp] theorem beginVerify_rsr (k : Kind) (v : Byte) (s : State) : (beginVerify k v s).rsr = s.rsr := rfl
@[simp] theorem beginVerify_slot (k : Kind) (v : Byte) (s : State) : (beginVerify k v s).slot = s.slot := rfl
@[simp] theorem beginVerify_ent (k : Kind) (v : Byte) (s : State) : (beginVerify k v s).ent = s.ent := rfl
@[simp] theorem beginVerify_sigb (k : Kind) (v : Byte) (s : State) : (beginVerify k v s).sigb = s.sigb := rfl
@[simp] theorem beginVerify_found (k : Kind) (v : Byte) (s : State) : (beginVerify k v s).found = s.found := rfl
@[simp] theorem beginVerify_desc (k : Kind) (v : Byte) (s : State) : (beginVerify k v s).desc = s.desc := rfl
@[simp] theorem beginVerify_kind (k : Kind) (v : Byte) (s : State) : (beginVerify k v s).kind = k := rfl
@[simp] theorem beginVerify_wval (k : Kind) (v : Byte) (s : State) : (beginVerify k v s).wval = v := rfl
@[simp] theorem beginVerify_rval (k : Kind) (v : Byte) (s : State) : (beginVerify k v s).rval = s.rval := rfl
@[simp] theorem beginVerify_okl (k : Kind) (v : Byte) (s : State) : (beginVerify k v s).okl = s.okl := rfl
@[simp] theorem beginVerify_okh (k : Kind) (v : Byte) (s : State) : (beginVerify k v s).okh = s.okh := rfl
@[simp] theorem beginVerify_oke (k : Kind) (v : Byte) (s : State) : (beginVerify k v s).oke = s.oke := rfl
@[simp] theorem beginVerify_outcome (k : Kind) (v : Byte) (s : State) : (beginVerify k v s).outcome = s.outcome := rfl
@[simp] theorem beginVerify_done (k : Kind) (v : Byte) (s : State) : (beginVerify k v s).done = s.done := rfl
@[simp] theorem beginVerify_fail (k : Kind) (v : Byte) (s : State) : (beginVerify k v s).fail = s.fail := rfl
@[simp] theorem beginVerify_pcnt (k : Kind) (v : Byte) (s : State) : (beginVerify k v s).pcnt = s.pcnt := rfl
@[simp] theorem beginVerify_sdoIn (k : Kind) (v : Byte) (s : State) : (beginVerify k v s).sdoIn = s.sdoIn := rfl
@[simp] theorem beginVerify_sdoDraws (k : Kind) (v : Byte) (s : State) : (beginVerify k v s).sdoDraws = s.sdoDraws := rfl
@[simp] theorem beginVerify_startIn (k : Kind) (v : Byte) (s : State) : (beginVerify k v s).startIn = s.startIn := rfl
@[simp] theorem beginVerify_startDraws (k : Kind) (v : Byte) (s : State) : (beginVerify k v s).startDraws = s.startDraws := rfl
@[simp] theorem beginVerify_trace (k : Kind) (v : Byte) (s : State) : (beginVerify k v s).trace = s.trace := rfl

/-! ### raise -/

@[simp] theorem raise_params (c : Cause) (s : State) : (raise c s).params = s.params := by unfold raise; split <;> rfl
@[simp] theorem raise_lines (c : Cause) (s : State) : (raise c s).lines = s.lines := by unfold raise; split <;> rfl
@[simp] theorem raise_st (c : Cause) (s : State) : (raise c s).st = s.st := by unfold raise; split <;> rfl
@[simp] theorem raise_seq (c : Cause) (s : State) : (raise c s).seq = s.seq := by unfold raise; split <;> rfl
@[simp] theorem raise_dsr (c : Cause) (s : State) : (raise c s).dsr = s.dsr := by unfold raise; split <;> rfl
@[simp] theorem raise_isr (c : Cause) (s : State) : (raise c s).isr = s.isr := by unfold raise; split <;> rfl
@[simp] theorem raise_rsr (c : Cause) (s : State) : (raise c s).rsr = s.rsr := by unfold raise; split <;> rfl
@[simp] theorem raise_slot (c : Cause) (s : State) : (raise c s).slot = s.slot := by unfold raise; split <;> rfl
@[simp] theorem raise_ent (c : Cause) (s : State) : (raise c s).ent = s.ent := by unfold raise; split <;> rfl
@[simp] theorem raise_sigb (c : Cause) (s : State) : (raise c s).sigb = s.sigb := by unfold raise; split <;> rfl
@[simp] theorem raise_found (c : Cause) (s : State) : (raise c s).found = s.found := by unfold raise; split <;> rfl
@[simp] theorem raise_desc (c : Cause) (s : State) : (raise c s).desc = s.desc := by unfold raise; split <;> rfl
@[simp] theorem raise_kind (c : Cause) (s : State) : (raise c s).kind = s.kind := by unfold raise; split <;> rfl
@[simp] theorem raise_wval (c : Cause) (s : State) : (raise c s).wval = s.wval := by unfold raise; split <;> rfl
@[simp] theorem raise_rval (c : Cause) (s : State) : (raise c s).rval = s.rval := by unfold raise; split <;> rfl
@[simp] theorem raise_okl (c : Cause) (s : State) : (raise c s).okl = s.okl := by unfold raise; split <;> rfl
@[simp] theorem raise_okh (c : Cause) (s : State) : (raise c s).okh = s.okh := by unfold raise; split <;> rfl
@[simp] theorem raise_oke (c : Cause) (s : State) : (raise c s).oke = s.oke := by unfold raise; split <;> rfl
@[simp] theorem raise_outcome (c : Cause) (s : State) : (raise c s).outcome = s.outcome := by unfold raise; split <;> rfl
@[simp] theorem raise_done (c : Cause) (s : State) : (raise c s).done = s.done := by unfold raise; split <;> rfl
@[simp] theorem raise_pcnt (c : Cause) (s : State) : (raise c s).pcnt = s.pcnt := by unfold raise; split <;> rfl
@[simp] theorem raise_sdoIn (c : Cause) (s : State) : (raise c s).sdoIn = s.sdoIn := by unfold raise; split <;> rfl
@[simp] theorem raise_sdoDraws (c : Cause) (s : State) : (raise c s).sdoDraws = s.sdoDraws := by unfold raise; split <;> rfl
@[simp] theorem raise_startIn (c : Cause) (s : State) : (raise c s).startIn = s.startIn := by unfold raise; split <;> rfl
@[simp] theorem raise_startDraws (c : Cause) (s : State) : (raise c s).startDraws = s.startDraws := by unfold raise; split <;> rfl
@[simp] theorem raise_trace (c : Cause) (s : State) : (raise c s).trace = s.trace := by unfold raise; split <;> rfl

theorem raise_fail (c : Cause) (s : State) : (raise c s).fail = if s.fail = .none then c else s.fail := by
  unfold raise; split <;> simp_all

/-! ### setOk -/

@[simp] theorem setOk_params (k : Kind) (ok : Bool) (s : State) : (setOk k ok s).params = s.params := by cases k <;> rfl
@[simp] theorem setOk_lines (k : Kind) (ok : Bool) (s : State) : (setOk k ok s).lines = s.lines := by cases k <;> rfl
@[simp] theorem setOk_st (k : Kind) (ok : Bool) (s : State) : (setOk k ok s).st = s.st := by cases k <;> rfl
@[simp] theorem setOk_seq (k : Kind) (ok : Bool) (s : State) : (setOk k ok s).seq = s.seq := by cases k <;> rfl
@[simp] theorem setOk_dsr (k : Kind) (ok : Bool) (s : State) : (setOk k ok s).dsr = s.dsr := by cases k <;> rfl
@[simp] theorem setOk_isr (k : Kind) (ok : Bool) (s : State) : (setOk k ok s).isr = s.isr := by cases k <;> rfl
@[simp] theorem setOk_rsr (k : Kind) (ok : Bool) (s : State) : (setOk k ok s).rsr = s.rsr := by cases k <;> rfl
@[simp] theorem setOk_slot (k : Kind) (ok : Bool) (s : State) : (setOk k ok s).slot = s.slot := by cases k <;> rfl
@[simp] theorem setOk_ent (k : Kind) (ok : Bool) (s : State) : (setOk k ok s).ent = s.ent := by cases k <;> rfl
@[simp] theorem setOk_sigb (k : Kind) (ok : Bool) (s : State) : (setOk k ok s).sigb = s.sigb := by cases k <;> rfl
@[simp] theorem setOk_found (k : Kind) (ok : Bool) (s : State) : (setOk k ok s).found = s.found := by cases k <;> rfl
@[simp] theorem setOk_desc (k : Kind) (ok : Bool) (s : State) : (setOk k ok s).desc = s.desc := by cases k <;> rfl
@[simp] theorem setOk_kind (k : Kind) (ok : Bool) (s : State) : (setOk k ok s).kind = s.kind := by cases k <;> rfl
@[simp] theorem setOk_wval (k : Kind) (ok : Bool) (s : State) : (setOk k ok s).wval = s.wval := by cases k <;> rfl
@[simp] theorem setOk_rval (k : Kind) (ok : Bool) (s : State) : (setOk k ok s).rval = s.rval := by cases k <;> rfl
@[simp] theorem setOk_outcome (k : Kind) (ok : Bool) (s : State) : (setOk k ok s).outcome = s.outcome := by cases k <;> rfl
@[simp] theorem setOk_done (k : Kind) (ok : Bool) (s : State) : (setOk k ok s).done = s.done := by cases k <;> rfl
@[simp] theorem setOk_fail (k : Kind) (ok : Bool) (s : State) : (setOk k ok s).fail = s.fail := by cases k <;> rfl
@[simp] theorem setOk_pcnt (k : Kind) (ok : Bool) (s : State) : (setOk k ok s).pcnt = s.pcnt := by cases k <;> rfl
@[simp] theorem setOk_sdoIn (k : Kind) (ok : Bool) (s : State) : (setOk k ok s).sdoIn = s.sdoIn := by cases k <;> rfl
@[simp] theorem setOk_sdoDraws (k : Kind) (ok : Bool) (s : State) : (setOk k ok s).sdoDraws = s.sdoDraws := by cases k <;> rfl
@[simp] theorem setOk_startIn (k : Kind) (ok : Bool) (s : State) : (setOk k ok s).startIn = s.startIn := by cases k <;> rfl
@[simp] theorem setOk_startDraws (k : Kind) (ok : Bool) (s : State) : (setOk k ok s).startDraws = s.startDraws := by cases k <;> rfl
@[simp] theorem setOk_trace (k : Kind) (ok : Bool) (s : State) : (setOk k ok s).trace = s.trace := by cases k <;> rfl

/-! ### judge -/

@[simp] theorem judge_params (k : Kind) (s : State) : (judge k s).params = s.params := by unfold judge; split <;> simp
@[simp] theorem judge_lines (k : Kind) (s : State) : (judge k s).lines = s.lines := by unfold judge; split <;> simp
@[simp] theorem judge_st (k : Kind) (s : State) : (judge k s).st = s.st := by unfold judge; split <;> simp
@[simp] theorem judge_seq (k : Kind) (s : State) : (judge k s).seq = s.seq := by unfold judge; split <;> simp
@[simp] theorem judge_dsr (k : Kind) (s : State) : (judge k s).dsr = s.dsr := by unfold judge; split <;> simp
@[simp] theorem judge_isr (k : Kind) (s : State) : (judge k s).isr = s.isr := by unfold judge; split <;> simp
@[simp] theorem judge_rsr (k : Kind) (s : State) : (judge k s).rsr = s.rsr := by unfold judge; split <;> simp
@[simp] theorem judge_slot (k : Kind) (s : State) : (judge k s).slot = s.slot := by unfold judge; split <;> simp
@[simp] theorem judge_ent (k : Kind) (s : State) : (judge k s).ent = s.ent := by unfold judge; split <;> simp
@[simp] theorem judge_sigb (k : Kind) (s : State) : (judge k s).sigb = s.sigb := by unfold judge; split <;> simp
@[simp] theorem judge_found (k : Kind) (s : State) : (judge k s).found = s.found := by unfold judge; split <;> simp
@[simp] theorem judge_desc (k : Kind) (s : State) : (judge k s).desc = s.desc := by unfold judge; split <;> simp
@[simp] theorem judge_kind (k : Kind) (s : State) : (judge k s).kind = s.kind := by unfold judge; split <;> simp
@[simp] theorem judge_wval (k : Kind) (s : State) : (judge k s).wval = s.wval := by unfold judge; split <;> simp
@[simp] theorem judge_rval (k : Kind) (s : State) : (judge k s).rval = s.rval := by unfold judge; split <;> simp
@[simp] theorem judge_outcome (k : Kind) (s : State) : (judge k s).outcome = s.outcome := by unfold judge; split <;> simp
@[simp] theorem judge_done (k : Kind) (s : State) : (judge k s).done = s.done := by unfold judge; split <;> simp
@[simp] theorem judge_pcnt (k : Kind) (s : State) : (judge k s).pcnt = s.pcnt := by unfold judge; split <;> simp
@[simp] theorem judge_sdoIn (k : Kind) (s : State) : (judge k s).sdoIn = s.sdoIn := by unfold judge; split <;> simp
@[simp] theorem judge_sdoDraws (k : Kind) (s : State) : (judge k s).sdoDraws = s.sdoDraws := by unfold judge; split <;> simp
@[simp] theorem judge_startIn (k : Kind) (s : State) : (judge k s).startIn = s.startIn := by unfold judge; split <;> simp
@[simp] theorem judge_startDraws (k : Kind) (s : State) : (judge k s).startDraws = s.startDraws := by unfold judge; split <;> simp
@[simp] theorem judge_trace (k : Kind) (s : State) : (judge k s).trace = s.trace := by unfold judge; split <;> simp

end Sys2Proof.Laws
end

