-- ==== Sys2Proof/Laws/Frame.lean ====
section
/-! SUPPORT. What one frame and one poll sample do, each said once: later proofs cite these and unfold no slot. -/

namespace Sys2Proof.Laws

open Sys2Proof.Machine Sys2Proof.Safety

/-- Taking samples shifts the later ones. -/
theorem sample_after (s t : State) (n k : Nat) (h1 : t.sdoIn = s.sdoIn.drop n) (h2 : t.sdoDraws = s.sdoDraws + n) :
    t.sample k = s.sample (n + k) := by
  simp [State.sample, h1, h2, Nat.add_assoc]

/-! ### Lists of statements -/

@[simp] theorem perform_nil (s : State) : perform [] s = s := rfl
@[simp] theorem perform_cons (c : Stmt) (cs : List Stmt) (s : State) : perform (c :: cs) s = perform cs (c.act s) := rfl
@[simp] theorem perform_append (as bs : List Stmt) (s : State) : perform (as ++ bs) s = perform bs (perform as s) := by
  simp [perform, List.foldl_append]

/-! ### The parts of a frame -/

theorem pulseCode_perform (p : Params) (s : State) :
    perform (pulseCode p) s =
      { s with
        lines := { s.lines with lvl := { s.lines.lvl with sci := false } }
        trace := [.setLevel .sci false, .waitAtLeast p.tSciHigh, .setLevel .sci true] ++ s.trace } := rfl

/-- One data slot. -/
theorem dataSlotCode_perform (p : Params) (n : Nat) (s : State) :
    perform (dataSlotCode p n) s =
      { s with
        lines := { s.lines with lvl := { s.lines.lvl with sci := false, sdi := topBit s.dsr, sii := topBit s.isr } }
        dsr := shl1 s.dsr
        isr := shl1 s.isr
        rsr := shiftIn s.rsr (s.sample 0)
        slot := BitVec.ofNat 4 n
        sdoIn := s.sdoIn.drop 1
        sdoDraws := s.sdoDraws + 1
        trace := (dataSlotEvents p (s.sample 0) (topBit s.dsr) (topBit s.isr)).reverse ++ s.trace } := by
  simp [dataSlotCode, pulseCode_perform, Stmt.act, driveBit, shiftOut, setGroup, sampleBit, readSdo, emit, atSlot, Event.apply,
    PerLine.set, PerLine.setAll, dataSlotEvents, pulseEvents, latchEvent, State.sample]

theorem startSlot_perform (p : Params) (d i : Byte) (s : State) :
    perform (startSlotCode p d i) s =
      { s with
        lines := atRest s.lines
        dsr := d
        isr := i
        rsr := 0
        slot := 0
        trace := (latchEvent false false :: pulseEvents p).reverse ++ s.trace } := rfl

theorem stopSlots_perform (p : Params) (s : State) :
    perform (stopSlotsCode p) s =
      { s with
        lines := atRest s.lines
        slot := 10
        trace := (latchEvent false false :: pulseEvents p ++ pulseEvents p).reverse ++ s.trace } := rfl

/-- A frame (R131), said once: 8 samples taken, RSR the response, DSR and ISR empty, SLOT 10, the clock and the two data lines at
0, the 51 events of R91 added, and nothing else changed. -/
theorem xfer_eq (d i : Byte) (s : State) :
    xfer d i s =
      { s with
        lines := atRest s.lines
        dsr := 0
        isr := 0
        rsr := byteAt s 0
        slot := 10
        sdoIn := s.sdoIn.drop 8
        sdoDraws := s.sdoDraws + 8
        trace := (frameEvents s.params d i s.sample).reverse ++ s.trace } := by
  unfold xfer
  simp only [frameCode, dataSlotsCode, perform_append, startSlot_perform, dataSlotCode_perform, stopSlots_perform]
  simp [atRest, byteAt, packBits, frameEvents, dataSlotEvents, pulseEvents, latchEvent, State.sample, List.drop_drop,
    shiftIn, shl1, topBit]

end Sys2Proof.Laws
end

