-- ==== Sys2Proof/Laws/Ops.lean ====
section
/-! SUPPORT. One lemma for each shared operation, saying once what it can do: reads of SDO, frames, POLL, the fuse sequences, causes and
single steps. Proofs about states of many frames should cite these and unfold no frame. -/

namespace Sys2Proof.Laws

open Sys2Proof.Machine Sys2Proof.Safety Sys2Proof.Claims

/-! ### Reads of SDO -/

/-- An operation that reads SDO runs while the line may be read. -/
theorem readingSdo_readable (f : State → State) (s : State) (h : Readable s) : readingSdo f s = .next (f s) := by
  unfold Readable at h
  simp [readingSdo, h]

/-- What a next state of an operation that reads SDO says. -/
theorem readingSdo_next {f : State → State} {s t : State} (h : readingSdo f s = .next t) : Readable s ∧ t = f s := by
  unfold readingSdo at h
  split at h
  · exact ⟨by assumption, by cases h; rfl⟩
  · cases h

theorem readingIfScanned_readable (f : State → State) (s : State) (h : Readable s) : readingIfScanned f s = .next (f s) := by
  unfold readingIfScanned
  split
  · exact readingSdo_readable _ _ h
  · rfl

/-! ### Frames -/

theorem xfer_after (d i : Byte) (s : State) : xfer d i s = afterFrame d i s := by
  rw [xfer_eq]
  rfl

/-- The statements of frames, run to their end. -/
theorem framesCode_perform (l : List (Byte × Byte)) : ∀ s : State, perform (framesCode s.params l) s = afterFrames l s := by
  induction l with
  | nil => exact fun _ => rfl
  | cons x l ih =>
    intro s
    have h : perform (frameCode s.params x.1 x.2) s = afterFrame x.1 x.2 s := xfer_after _ _ _
    simp only [framesCode, List.flatMap_cons, perform_append, h]
    exact ih (afterFrame x.1 x.2 s)

/-- The same, with the parameters named otherwise. -/
theorem framesCode_perform' {p : Params} (l : List (Byte × Byte)) (s : State) (h : p = s.params) :
    perform (framesCode p l) s = afterFrames l s := by
  rw [h, framesCode_perform]

theorem afterFrame_sample (d i : Byte) (s : State) (k : Nat) : (afterFrame d i s).sample k = s.sample (8 + k) :=
  sample_after s _ 8 k rfl rfl

theorem afterSample_sample (b : Bool) (n : Nat) (s : State) (k : Nat) : (afterSample b n s).sample k = s.sample (1 + k) :=
  sample_after s _ 1 k rfl rfl

theorem afterFrame_byteAt (d i : Byte) (s : State) (k : Nat) : byteAt (afterFrame d i s) k = byteAt s (8 + k) := by
  simp [byteAt, afterFrame_sample, Nat.add_assoc]

theorem afterSample_byteAt (b : Bool) (n : Nat) (s : State) (k : Nat) : byteAt (afterSample b n s) k = byteAt s (1 + k) := by
  simp [byteAt, afterSample_sample, Nat.add_assoc]

theorem afterFrame_rsr (d i : Byte) (s : State) : (afterFrame d i s).rsr = byteAt s 0 := rfl

theorem afterFrames_append (a b : List (Byte × Byte)) (s : State) : afterFrames (a ++ b) s = afterFrames b (afterFrames a s) := by
  simp [afterFrames]

/-- The registers no frame touches. -/
theorem afterFrames_keeps (l : List (Byte × Byte)) : ∀ s : State,
    (afterFrames l s).params = s.params ∧ (afterFrames l s).st = s.st ∧ (afterFrames l s).seq = s.seq ∧ (afterFrames l s).ent = s.ent ∧
    (afterFrames l s).sigb = s.sigb ∧ (afterFrames l s).found = s.found ∧ (afterFrames l s).desc = s.desc ∧
    (afterFrames l s).fail = s.fail := by
  induction l with
  | nil => exact fun _ => ⟨rfl, rfl, rfl, rfl, rfl, rfl, rfl, rfl⟩
  | cons x l ih => exact fun s => ih (afterFrame x.1 x.2 s)

/-! ### Causes -/

theorem raise_eq (c : Cause) (s : State) : raise c s = { s with fail := failAfter c s } := by
  unfold raise failAfter
  cases h : s.fail <;> simp <;> (cases s; simp_all)

/-! ### POLL -/

/-- The start of a POLL changes nothing but the count of the bounded variant. -/
theorem pollEntry_perform (p : Params) (s : State) :
    perform (pollEntry p) s = if p.pollLimit = none then s else { s with pcnt := 0 } := by
  unfold pollEntry
  cases p.pollLimit <;> rfl

theorem enterPoll_sample (s : State) (k : Nat) : (enterPoll s).sample k = s.sample k := by
  rw [enterPoll, pollEntry_perform]
  split <;> rfl

/-- One sample of a POLL in progress. -/
theorem pollSample_eq (s : State) : pollSample s = afterSample (s.sample 0) (s.pcnt + 1) s := by
  unfold pollSample afterSample countAfter
  cases h : s.params.pollLimit <;> simp [readSdo, emit, withEvents, withSamplesTaken, Event.apply]

/-- The first sample of a POLL. -/
theorem pollSample_enterPoll (s : State) : pollSample (enterPoll s) = afterSample (s.sample 0) 1 s := by
  rw [pollSample_eq, enterPoll_sample, enterPoll, pollEntry_perform]
  unfold afterSample countAfter
  cases h : s.params.pollLimit <;> simp [withEvents, withSamplesTaken, h]

/-- A POLL that samples 1 at once returns. -/
theorem pollFrom_ready (site : PollSite) (back : SessionStep) (f : State → State) (s : State) (h : s.sample 0 = true) :
    pollFrom site back f s = f (afterSample true 1 s) := by
  simp [pollFrom, pollOnce, enterPoll_sample, h, pollSample_enterPoll]

/-- A POLL that samples 0 first waits, unless one sample is all it may take. -/
theorem pollFrom_low (site : PollSite) (back : SessionStep) (f : State → State) (s : State) (h : s.sample 0 = false) :
    pollFrom site back f s = afterFirstLow site back s := by
  have hp : (afterSample false 1 s).params = s.params := rfl
  have hx : pollExpired (afterSample false 1 s) = decide (s.params.pollLimit = some 1) := by
    unfold pollExpired
    rw [hp]
    cases h2 : s.params.pollLimit with
    | none => rfl
    | some n =>
      have hc : (afterSample false 1 s).pcnt = 1 := by simp [afterSample, withEvents, withSamplesTaken, countAfter, h2]
      simp only [hc, Option.some.injEq, Bool.beq_eq_decide_eq, eq_comm]
  simp only [pollFrom, pollOnce, enterPoll_sample, h, pollSample_enterPoll, hx, afterFirstLow, abandonSession, raise_eq, abandoned,
    standing, moveTo, Bool.false_eq_true, if_false, decide_eq_true_eq]

/-- A waiting POLL that samples 1 returns. -/
theorem pollOnce_ready (site : PollSite) (back : SessionStep) (f : State → State) (s : State) (h : s.sample 0 = true) :
    pollOnce site back f s = f (afterSample true (s.pcnt + 1) s) := by
  simp [pollOnce, h, pollSample_eq]

/-! ### The fuse sequences -/

theorem strobe_eq (k : Kind) (v : Byte) (s : State) :
    strobe k v s = afterStrobe (writeByteA k) (writeByteB k) v s := framesCode_perform _ s

/-- The final frame of a write. -/
theorem finishCode_perform (s : State) : perform (finishCode s.params) s = afterFrame 0x00 0x4C s := framesCode_perform _ s

theorem strobe_sample (k : Kind) (v : Byte) (s : State) : (strobe k v s).sample 0 = s.sample 32 := by
  rw [strobe_eq]
  simp only [afterStrobe, afterFrames, List.foldl, afterFrame_sample]

/-- A write whose POLLs are answered at once. -/
theorem writeFuse_ready (o : WriteOwner) (k : Kind) (v : Byte) (back : SessionStep) (f : State → State) (s : State)
    (h : PollsReady s 0) : writeFuse o k v back f s = f (afterWriteAtOnce (writeByteA k) (writeByteB k) v s) := by
  rw [writeFuse, pollFrom_ready _ _ _ _ ((strobe_sample k v s).trans h.1), finishWrite, pollFrom_ready, finishCode_perform, strobe_eq]
  · rfl
  · rw [finishCode_perform, strobe_eq]
    simp only [afterStrobe, afterFrames, List.foldl, afterFrame_sample, afterSample_sample]
    exact h.2

/-- A write whose first POLL samples 0. -/
theorem writeFuse_firstLow (o : WriteOwner) (k : Kind) (v : Byte) (back : SessionStep) (f : State → State) (s : State)
    (h : s.sample 32 = false) : writeFuse o k v back f s =
      afterFirstLow (.fuseWrite o k false) back (afterStrobe (writeByteA k) (writeByteB k) v s) := by
  rw [writeFuse, pollFrom_low _ _ _ _ ((strobe_sample k v s).trans h), strobe_eq]

/-- A write whose second POLL samples 0. -/
theorem writeFuse_secondLow (o : WriteOwner) (k : Kind) (v : Byte) (back : SessionStep) (f : State → State) (s : State)
    (h : s.sample 32 = true) (h2 : s.sample 41 = false) : writeFuse o k v back f s =
      afterFirstLow (.fuseWrite o k true) back (afterFifthFrame (writeByteA k) (writeByteB k) v s) := by
  rw [writeFuse, pollFrom_ready _ _ _ _ ((strobe_sample k v s).trans h), finishWrite, pollFrom_low, finishCode_perform, strobe_eq]
  · rfl
  · rw [finishCode_perform, strobe_eq]
    simp only [afterStrobe, afterFrames, List.foldl, afterFrame_sample, afterSample_sample]
    exact h2

theorem readFuse_eq (k : Kind) (s : State) : readFuse k s = afterRead (readByteA k) (readByteB k) s := framesCode_perform _ s

theorem afterRead_rsr (a b : Byte) (s : State) : (afterRead a b s).rsr = byteAt s 16 := by
  simp only [afterRead, afterFrames, List.foldl, afterFrame_rsr, afterFrame_byteAt]

theorem afterWriteAtOnce_byteAt (a b v : Byte) (s : State) (k : Nat) : byteAt (afterWriteAtOnce a b v s) k = byteAt s (42 + k) := by
  simp only [afterWriteAtOnce, afterFifthFrame, afterStrobe, afterFrames, List.foldl, afterFrame_byteAt, afterSample_byteAt]
  congr 1
  omega

/-- The end of a VERIFY: the read back, the compare, the kind's flag. -/
theorem endVerify_eq (k : Kind) (s : State) :
    endVerify k s = setOk k (decide (byteAt s 16 = s.wval))
      (withReadBack (byteAt s 16) (failAfterCompare (decide (byteAt s 16 = s.wval)) s) (afterRead (readByteA k) (readByteB k) s)) := by
  have hp : endVerify k s = judge k { readFuse k s with rval := (readFuse k s).rsr } := by
    simp only [endVerify, readBackCode, perform_append, perform_cons, perform_nil, Stmt.act, readFuse]
  rw [hp, readFuse_eq, afterRead_rsr]
  unfold judge
  have e : (afterRead (readByteA k) (readByteB k) s).wval = s.wval := rfl
  have e2 : (afterRead (readByteA k) (readByteB k) s).fail = s.fail := rfl
  by_cases h : byteAt s 16 = s.wval
  · simp [e, h, failAfterCompare, withReadBack]
    congr 1
  · simp [e, h, failAfterCompare, raise_eq, failAfter, withReadBack]
    cases k <;> simp [setOk, e2]

/-- The end of a VERIFY in the statements' terms. -/
theorem endVerify_verified (k : Kind) (s : State) : endVerify k s = verified k s := by
  have h1 : readByteA k = k.readA := by cases k <;> rfl
  have h2 : readByteB k = k.readB := by cases k <;> rfl
  have h3 (b : Bool) (t : State) : setOk k b t = withOk k b t := by cases k <;> rfl
  rw [endVerify_eq, h1, h2, h3, verified]

/-! ### The matcher -/

theorem readSignatureByte_eq (n : Byte) (s : State) :
    readSignatureByte n s = afterFrames [(0x08, 0x4C), (n, 0x0C), (0x00, 0x68), (0x00, 0x6C)] s := by
  rw [readSignatureByte, signatureByteCode, framesCode_perform, zext8, BitVec.setWidth_eq]

theorem readSignatureByte_rsr (n : Byte) (s : State) : (readSignatureByte n s).rsr = byteAt s 24 := by
  rw [readSignatureByte_eq]
  simp only [afterFrames, List.foldl, afterFrame_rsr, afterFrame_byteAt]

theorem afterFrame_withMatch (d i : Byte) (m : Nat) (g : Signature) (f : Bool) (e : Descriptor) (s : State) :
    afterFrame d i (withMatch m g f e s) = withMatch m g f e (afterFrame d i s) := rfl

/-- The matcher's registers and the frames do not touch each other. -/
theorem afterFrames_withMatch (l : List (Byte × Byte)) (m : Nat) (g : Signature) (f : Bool) (e : Descriptor) : ∀ s : State,
    afterFrames l (withMatch m g f e s) = withMatch m g f e (afterFrames l s) := by
  induction l with
  | nil => exact fun _ => rfl
  | cons x l ih =>
    intro s
    simp only [afterFrames, List.foldl]
    rw [afterFrame_withMatch]
    exact ih _

theorem withMatch_withMatch (m m' : Nat) (g g' : Signature) (f f' : Bool) (e e' : Descriptor) (s : State) :
    withMatch m g f e (withMatch m' g' f' e' s) = withMatch m g f e s := rfl

/-- The registers of the matcher as `withMatch` writes them. -/
theorem withMatch_fields (m : Nat) (g : Signature) (f : Bool) (e : Descriptor) (s : State) :
    (withMatch m g f e s).ent = m ∧ (withMatch m g f e s).sigb = g ∧ (withMatch m g f e s).found = f ∧ (withMatch m g f e s).desc = e ∧
    (withMatch m g f e s).params = s.params ∧ ∀ k, byteAt (withMatch m g f e s) k = byteAt s k :=
  ⟨rfl, rfl, rfl, rfl, rfl, fun _ => rfl⟩

/-- One signature byte stored (R151). -/
theorem keepSignatureByte_eq (n : Fin 3) (s : State) :
    keepSignatureByte n s = withMatch s.ent (setSignatureByte s.sigb n s.rsr) s.found s.desc s := rfl

theorem signatureFrames_byteAt (s : State) (k : Nat) : byteAt (afterFrames signatureFrames s) k = byteAt s (96 + k) := by
  simp only [signatureFrames, afterFrames, List.foldl, afterFrame_byteAt]
  congr 1
  omega

/-- All three signature bytes read: twelve frames, and `SIGB` holds the three fourth responses. -/
theorem readSignature_eq (s : State) :
    readSignature s = withMatch s.ent ⟨byteAt s 24, byteAt s 56, byteAt s 88⟩ s.found s.desc (afterFrames signatureFrames s) := by
  have read (n : Byte) (k : Fin 3) (m : Nat) (g : Signature) (f : Bool) (e : Descriptor) (t : State) (h : t.params = s.params) :
      keepSignatureByte k (perform (signatureByteCode s.params n) (withMatch m g f e t)) =
        withMatch m (setSignatureByte g k (byteAt t 24)) f e (afterFrames [(0x08, 0x4C), (n, 0x0C), (0x00, 0x68), (0x00, 0x6C)] t) := by
    have r : (afterFrames [(0x08, 0x4C), (n, 0x0C), (0x00, 0x68), (0x00, 0x6C)] t).rsr = byteAt t 24 := by
      simp only [afterFrames, List.foldl, afterFrame_rsr, afterFrame_byteAt]
    have hp : s.params = (withMatch m g f e t).params := h.symm
    rw [signatureByteCode, framesCode_perform' _ _ hp, zext8, BitVec.setWidth_eq, afterFrames_withMatch, ← r]
    rfl
  have e : readSignature s = keepSignatureByte 2 (perform (signatureByteCode s.params 2) (keepSignatureByte 1
      (perform (signatureByteCode s.params 1) (keepSignatureByte 0 (perform (signatureByteCode s.params 0) s))))) := by
    simp only [readSignature, signatureCode, perform_append, perform_cons, perform_nil, Stmt.act]
  have b1 : ∀ k, byteAt (afterFrames [(0x08, 0x4C), (0x00, 0x0C), (0x00, 0x68), (0x00, 0x6C)] s) k = byteAt s (32 + k) := by
    intro k
    simp only [afterFrames, List.foldl, afterFrame_byteAt]
    exact congrArg (byteAt s) (by omega)
  have first : keepSignatureByte 0 (perform (signatureByteCode s.params 0) s) = _ := read 0 0 s.ent s.sigb s.found s.desc s rfl
  rw [e, first]
  have p1 := (afterFrames_keeps [(0x08, 0x4C), (0x00, 0x0C), (0x00, 0x68), (0x00, 0x6C)] s).1
  generalize hu : afterFrames [(0x08, 0x4C), (0x00, 0x0C), (0x00, 0x68), (0x00, 0x6C)] s = u at *
  have b2 : ∀ k, byteAt (afterFrames [(0x08, 0x4C), (0x01, 0x0C), (0x00, 0x68), (0x00, 0x6C)] u) k = byteAt s (64 + k) := by
    intro k
    simp only [afterFrames, List.foldl, afterFrame_byteAt, b1]
    exact congrArg (byteAt s) (by omega)
  rw [read 1 1 _ _ _ _ u p1]
  have p2 := (afterFrames_keeps [(0x08, 0x4C), (0x01, 0x0C), (0x00, 0x68), (0x00, 0x6C)] u).1.trans p1
  generalize hv : afterFrames [(0x08, 0x4C), (0x01, 0x0C), (0x00, 0x68), (0x00, 0x6C)] u = v at *
  rw [read 2 2 _ _ _ _ v p2]
  have hw : afterFrames [(0x08, 0x4C), (0x02, 0x0C), (0x00, 0x68), (0x00, 0x6C)] v = afterFrames signatureFrames s := by
    rw [← hv, ← hu, ← afterFrames_append, ← afterFrames_append]
    rfl
  rw [hw]
  simp only [b1, b2]
  rfl

/-- The sentinel test, the compare and the rest of the scan from an entry that is there (R151). -/
theorem scanTable_succ (n : Nat) (s : State) : scanTable (n + 1) s =
    match s.params.deviceTable[s.ent]? with
    | none => withFail (failAfter .unknownDevice s) s
    | some e =>
      if isSentinel e then withFail (failAfter .unknownDevice s) s
      else if (readSignature s).sigb = e.sig then matched e (readSignature s)
      else scanTable n { readSignature s with ent := s.ent + 1 } := by
  have hp : (readSignature s).params = s.params := by
    rw [readSignature_eq]
    exact (withMatch_fields _ _ _ _ _).2.2.2.2.1.trans (afterFrames_keeps _ s).1
  have he : (readSignature s).ent = s.ent := by
    rw [readSignature_eq]
    exact (withMatch_fields _ _ _ _ _).1
  rw [scanTable]
  generalize readSignature s = r at *
  unfold atSentinel testSentinel entryMatches compareSignature atSentinel tableRead
  rw [hp, he]
  cases h : s.params.deviceTable[s.ent]? with
  | none => simp [raise_eq, withFail]
  | some e =>
    by_cases hs : isSentinel e = true
    · simp [hs, raise_eq, withFail]
    · by_cases hm : r.sigb = e.sig <;> simp [hs, signatureMatches, hm, hp]

/-! ### Steps -/

/-- A step in a POLL samples. -/
theorem step_polling (s : State) (site : PollSite) (back : SessionStep) (h : s.seq = .polling site back) : step s = exec .poll s := by
  simp [step, runPosition, h]

/-- A run of one step more. -/
theorem run_succ (n : Nat) (s t : State) (h : step s = .next t) : Host.Core.run core (n + 1) s = Host.Core.run core n t := by
  have step_next (M : Host.Core) (m : Nat) (a b : M.State) (hm : M.step a = .next b) : M.run (m + 1) a = M.run m b := by
    simp [Host.Core.run, hm]
  exact step_next core n s t h

end Sys2Proof.Laws
end

