-- ==== Sys2Proof/Laws/PerInstr.lean ====
section
/-! SUPPORT. The per-instruction family Reread: whatever frame a reader takes for an operation, under whatever loaded command, the
operation is well formed and its own frame is that very frame; so an operation without a frame is never read. -/

namespace Sys2Proof.Laws

/-- Reading a frame as `i` loses no bit of it (spec/30_encoding.md R95, R98). -/
def Reread.Statement (i : Instr) : Prop :=
  ∀ cmd cw, decode cmd cw = .ok i → i.wellFormed = true ∧ frameWord i = some cw

theorem Reread.ldcmdSig : Reread.Statement .ldcmdSig := fun cmd cw h => decode_ok cmd cw _ h
theorem Reread.ldaddr (n : BitVec 2) : Reread.Statement (.ldaddr n) := fun cmd cw h => decode_ok cmd cw _ h
theorem Reread.sigsetup : Reread.Statement .sigsetup := fun cmd cw h => decode_ok cmd cw _ h
theorem Reread.sigread : Reread.Statement .sigread := fun cmd cw h => decode_ok cmd cw _ h
theorem Reread.ldcmdWf : Reread.Statement .ldcmdWf := fun cmd cw h => decode_ok cmd cw _ h
theorem Reread.lddata (v : Byte) : Reread.Statement (.lddata v) := fun cmd cw h => decode_ok cmd cw _ h
theorem Reread.wfLA : Reread.Statement .wfLA := fun cmd cw h => decode_ok cmd cw _ h
theorem Reread.wfLB : Reread.Statement .wfLB := fun cmd cw h => decode_ok cmd cw _ h
theorem Reread.wfHA : Reread.Statement .wfHA := fun cmd cw h => decode_ok cmd cw _ h
theorem Reread.wfHB : Reread.Statement .wfHB := fun cmd cw h => decode_ok cmd cw _ h
theorem Reread.wfEA : Reread.Statement .wfEA := fun cmd cw h => decode_ok cmd cw _ h
theorem Reread.wfEB : Reread.Statement .wfEB := fun cmd cw h => decode_ok cmd cw _ h
theorem Reread.ldcmdNop : Reread.Statement .ldcmdNop := fun cmd cw h => decode_ok cmd cw _ h
theorem Reread.ldcmdRf : Reread.Statement .ldcmdRf := fun cmd cw h => decode_ok cmd cw _ h
theorem Reread.rfLA : Reread.Statement .rfLA := fun cmd cw h => decode_ok cmd cw _ h
theorem Reread.rfLB : Reread.Statement .rfLB := fun cmd cw h => decode_ok cmd cw _ h
theorem Reread.rfHA : Reread.Statement .rfHA := fun cmd cw h => decode_ok cmd cw _ h
theorem Reread.rfHB : Reread.Statement .rfHB := fun cmd cw h => decode_ok cmd cw _ h
theorem Reread.rfEA : Reread.Statement .rfEA := fun cmd cw h => decode_ok cmd cw _ h
theorem Reread.rfEB : Reread.Statement .rfEB := fun cmd cw h => decode_ok cmd cw _ h
theorem Reread.pulse : Reread.Statement .pulse := fun cmd cw h => decode_ok cmd cw _ h
theorem Reread.xfer (d ins : Byte) : Reread.Statement (.xfer d ins) := fun cmd cw h => decode_ok cmd cw _ h
theorem Reread.poll : Reread.Statement .poll := fun cmd cw h => decode_ok cmd cw _ h
theorem Reread.rdsig (n : Byte) : Reread.Statement (.rdsig n) := fun cmd cw h => decode_ok cmd cw _ h
theorem Reread.matchDevice : Reread.Statement .matchDevice := fun cmd cw h => decode_ok cmd cw _ h
theorem Reread.wrfuseL (v : Byte) : Reread.Statement (.wrfuseL v) := fun cmd cw h => decode_ok cmd cw _ h
theorem Reread.wrfuseH (v : Byte) : Reread.Statement (.wrfuseH v) := fun cmd cw h => decode_ok cmd cw _ h
theorem Reread.wrfuseE (v : Byte) : Reread.Statement (.wrfuseE v) := fun cmd cw h => decode_ok cmd cw _ h
theorem Reread.rdfuseL : Reread.Statement .rdfuseL := fun cmd cw h => decode_ok cmd cw _ h
theorem Reread.rdfuseH : Reread.Statement .rdfuseH := fun cmd cw h => decode_ok cmd cw _ h
theorem Reread.rdfuseE : Reread.Statement .rdfuseE := fun cmd cw h => decode_ok cmd cw _ h
theorem Reread.verifyL (v : Byte) : Reread.Statement (.verifyL v) := fun cmd cw h => decode_ok cmd cw _ h
theorem Reread.verifyH (v : Byte) : Reread.Statement (.verifyH v) := fun cmd cw h => decode_ok cmd cw _ h
theorem Reread.verifyE (v : Byte) : Reread.Statement (.verifyE v) := fun cmd cw h => decode_ok cmd cw _ h
theorem Reread.start : Reread.Statement .start := fun cmd cw h => decode_ok cmd cw _ h
theorem Reread.s1 : Reread.Statement .s1 := fun cmd cw h => decode_ok cmd cw _ h
theorem Reread.s2 : Reread.Statement .s2 := fun cmd cw h => decode_ok cmd cw _ h
theorem Reread.s3 : Reread.Statement .s3 := fun cmd cw h => decode_ok cmd cw _ h
theorem Reread.s4 : Reread.Statement .s4 := fun cmd cw h => decode_ok cmd cw _ h
theorem Reread.s5 : Reread.Statement .s5 := fun cmd cw h => decode_ok cmd cw _ h
theorem Reread.s6 : Reread.Statement .s6 := fun cmd cw h => decode_ok cmd cw _ h
theorem Reread.s7 : Reread.Statement .s7 := fun cmd cw h => decode_ok cmd cw _ h
theorem Reread.s8 : Reread.Statement .s8 := fun cmd cw h => decode_ok cmd cw _ h
theorem Reread.s9 : Reread.Statement .s9 := fun cmd cw h => decode_ok cmd cw _ h

end Sys2Proof.Laws
end

