-- ==== Sys2Proof/Laws/Sequencer.lean ====
section
/-! SUPPORT. What the sequencer's steps come to: one statement, a whole stage, runs of both. Proofs about sessions should cite
`reaches_stage` and unfold no statement. -/

namespace Sys2Proof.Laws

open Sys2Proof.Machine Sys2Proof.Safety Sys2Proof.Claims

/-! ### Runs -/

theorem reaches_refl (s : State) : Reaches s s := ⟨0, rfl⟩

/-- A run of `n` steps and then `m` more. -/
theorem run_add (M : Host.Core) (n m : Nat) : ∀ s t : M.State, M.run n s = .next t → M.run (n + m) s = M.run m t := by
  induction n with
  | zero =>
    intro s t h
    cases h
    rw [Nat.zero_add]
  | succ n ih =>
    intro s t h
    have e : n + 1 + m = n + m + 1 := by omega
    rw [e]
    simp only [Host.Core.run] at h ⊢
    cases hs : M.step s with
    | next u =>
      rw [hs] at h
      exact ih u t h
    | fault r =>
      rw [hs] at h
      cases h
    | refused r =>
      rw [hs] at h
      cases h

theorem reaches_trans {s t u : State} (h : Reaches s t) (h' : Reaches t u) : Reaches s u := by
  obtain ⟨n, hn⟩ := h
  obtain ⟨m, hm⟩ := h'
  exact ⟨n + m, (run_add core n m s t hn).trans hm⟩

theorem reaches_step {s t : State} (h : step s = .next t) : Reaches s t := ⟨1, run_succ 0 s t h⟩

/-! ### One statement -/

theorem moveTo_moveTo (q r : Seq) (s : State) : moveTo q (moveTo r s) = moveTo q s := rfl

theorem moveTo_self (q : Seq) (s : State) (h : s.seq = q) : moveTo q s = s := by
  cases s
  cases h
  rfl

/-- No statement reads or writes the position. -/
theorem act_moveTo (c : Stmt) (q : Seq) (s : State) : c.act (moveTo q s) = moveTo q (c.act s) := by
  cases c <;> try rfl
  case testEntry =>
    simp only [Stmt.act, testSentinel, show atSentinel (moveTo q s) = atSentinel s from rfl, raise_eq]
    split <;> rfl
  case compareEntry =>
    show compareSignature (moveTo q s) = moveTo q (compareSignature s)
    have h1 : tableRead (moveTo q s).params (moveTo q s).ent = tableRead s.params s.ent := rfl
    have h2 (e : Descriptor) : signatureMatches (moveTo q s) e = signatureMatches s e := rfl
    simp only [compareSignature, h1, h2]
    cases tableRead s.params s.ent with
    | none => rfl
    | some e => by_cases h : signatureMatches s e = true <;> simp [h, matched, moveTo]
  case judge k =>
    show judge k (moveTo q s) = moveTo q (judge k s)
    unfold judge
    show (if s.rval = s.wval then _ else _) = _
    split
    · cases k <;> rfl
    · simp only [raise_eq]
      cases k <;> rfl

/-- Does the statement leave the direction of every line alone? -/
def keepsDir : Stmt → Bool
  | .direction _ _ => false
  | .group dirs _ => dirs.isEmpty
  | _ => true

/-- Does the statement leave `DESC` alone? Only the compare of MATCH writes it (R28). -/
def keepsDesc : Stmt → Bool
  | .compareEntry => false
  | _ => true

theorem act_params (c : Stmt) (s : State) : (c.act s).params = s.params := by
  cases c <;> try rfl
  case testEntry =>
    simp only [Stmt.act, testSentinel]
    split <;> simp
  case compareEntry =>
    simp only [Stmt.act, compareSignature]
    split
    · rfl
    · split <;> rfl
  case judge k => exact judge_params k s

theorem act_desc (c : Stmt) (s : State) (h : keepsDesc c = true) : (c.act s).desc = s.desc := by
  cases c <;> try rfl
  case testEntry =>
    simp only [Stmt.act, testSentinel]
    split <;> simp
  case compareEntry => cases h
  case judge k => exact judge_desc k s

theorem setLevel_dir (l : Line) (v : Bool) (s : State) : (setLevel l v s).lines.dir = s.lines.dir := rfl

theorem act_dir (c : Stmt) (s : State) (h : keepsDir c = true) : (c.act s).lines.dir = s.lines.dir := by
  cases c <;> try rfl
  case direction => cases h
  case group dirs lvls =>
    cases dirs
    · rfl
    · cases h
  case testEntry =>
    simp only [Stmt.act, testSentinel]
    split <;> simp
  case compareEntry =>
    simp only [Stmt.act, compareSignature]
    split
    · rfl
    · split <;> rfl
  case judge k => exact congrArg _ (judge_lines k s)

/-- A statement runs where it may: a sample needs SDO to be an input. -/
theorem run_allowed (c : Stmt) (q : Seq) (s : State) (h : c.reads = false ∨ Readable s) : c.run q s = .next (moveTo q (c.act s)) := by
  unfold Stmt.run
  split
  · rename_i hr
    exact readingSdo_readable _ _ (h.resolve_left (by simp [hr]))
  · rfl

/-- A step inside a stage runs the statement there. -/
theorem step_within (g : Stage) (n : Nat) (s : State) (hq : s.seq = .within g n) : step s = runAt g n s := by
  unfold step runPosition
  rw [hq]

/-- A step at the beginning of a session step runs its first statement. -/
theorem step_due (p : SessionStep) (s : State) (hq : s.seq = .due p) (hp : p ≠ .idle) : step s = runAt (.own p) 0 s := by
  unfold step runPosition
  rw [hq]
  cases p <;> first
    | rfl
    | exact absurd rfl hp

theorem runAt_moveTo (g : Stage) (n : Nat) (q : Seq) (s : State) : runAt g n (moveTo q s) = runAt g n s := by
  have hx : stageExit g (moveTo q s) = stageExit g s := by cases g <;> rfl
  have hc : stageCode (moveTo q s).params (moveTo q s).desc g = stageCode s.params s.desc g := rfl
  unfold runAt
  rw [hx, hc]
  split
  · rfl
  · rename_i c _
    unfold Stmt.run
    rw [act_moveTo]
    unfold readingSdo
    simp only [act_moveTo, moveTo_moveTo]
    rfl

/-! ### A stage -/

/-- From a statement of a stage to the stage's end. -/
theorem reaches_rest (g : Stage) (post : List Stmt) : ∀ (pre : List Stmt) (s : State),
    stageCode s.params s.desc g = pre ++ post → post ≠ [] →
    ((∀ c ∈ post, c.reads = false) ∨ (Readable s ∧ ∀ c ∈ post, keepsDir c = true)) →
    (∀ c ∈ post.dropLast, keepsDesc c = true) →
    Reaches (moveTo (.within g pre.length) s) (moveTo (stageExit g (perform post.dropLast s)) (perform post s)) := by
  induction post with
  | nil => exact fun _ _ _ h => absurd rfl h
  | cons c post ih =>
    intro pre s hcode _ hread hdesc
    have hget : (stageCode s.params s.desc g)[pre.length]? = some c := by
      rw [hcode]
      simp
    have hlen : (stageCode s.params s.desc g).length = pre.length + 1 + post.length := by
      rw [hcode]
      simp
      omega
    have hallow : c.reads = false ∨ Readable s := by
      rcases hread with h | h
      · exact .inl (h c (by simp))
      · exact .inr h.1
    have hstep : step (moveTo (.within g pre.length) s) =
        .next (moveTo (if post = [] then stageExit g s else .within g (pre.length + 1)) (c.act s)) := by
      rw [step_within g pre.length _ rfl, runAt_moveTo]
      unfold runAt
      rw [hget, hlen]
      show c.run _ s = _
      rw [run_allowed c _ s hallow]
      cases post
      · simp
      · simp
    refine reaches_trans (reaches_step hstep) ?_
    by_cases hp : post = []
    · subst hp
      exact reaches_refl _
    · rw [if_neg hp]
      have hd : keepsDesc c = true := by
        apply hdesc c
        rw [List.dropLast_cons_of_ne_nil hp]
        simp
      have hcode' : stageCode (c.act s).params (c.act s).desc g = (pre ++ [c]) ++ post := by
        rw [act_params, act_desc c s hd, hcode]
        simp
      have hread' : (∀ c ∈ post, c.reads = false) ∨ (Readable (c.act s) ∧ ∀ c ∈ post, keepsDir c = true) := by
        rcases hread with h | h
        · exact .inl fun c' hc' => h c' (by simp [hc'])
        · refine .inr ⟨?_, fun c' hc' => h.2 c' (by simp [hc'])⟩
          unfold Readable
          rw [act_dir c s (h.2 c (by simp))]
          exact h.1
      have hdesc' : ∀ c ∈ post.dropLast, keepsDesc c = true := by
        intro c' hc'
        apply hdesc c'
        rw [List.dropLast_cons_of_ne_nil hp]
        simp [hc']
      have h := ih (pre ++ [c]) (c.act s) hcode' hp hread' hdesc'
      rw [List.dropLast_cons_of_ne_nil hp]
      simpa using h

/-- From the first statement of a stage to its end (R26, R73): the sequencer's steps come to what its statements do, run one after the
other. -/
theorem reaches_stage (g : Stage) (s : State) (h0 : stageCode s.params s.desc g ≠ [])
    (h1 : (∀ c ∈ stageCode s.params s.desc g, c.reads = false) ∨
      (Readable s ∧ ∀ c ∈ stageCode s.params s.desc g, keepsDir c = true))
    (h2 : ∀ c ∈ (stageCode s.params s.desc g).dropLast, keepsDesc c = true) :
    Reaches (moveTo (.within g 0) s)
      (moveTo (stageExit g (perform (stageCode s.params s.desc g).dropLast s)) (perform (stageCode s.params s.desc g) s)) :=
  reaches_rest g _ [] s rfl h0 h1 h2

/-! ### The stages of the engine -/

/-- Does the statement leave the directions and `DESC` alone? -/
def keepsBoth (c : Stmt) : Bool := keepsDir c && keepsDesc c

theorem framesCode_keeps (p : Params) (l : List (Byte × Byte)) : (framesCode p l).all keepsBoth = true := by
  induction l with
  | nil => rfl
  | cons x l ih =>
    rw [framesCode, List.flatMap_cons, List.all_append]
    exact Bool.and_eq_true _ _ ▸ ⟨rfl, ih⟩

theorem pollEntry_keeps (p : Params) : (pollEntry p).all keepsBoth = true := by
  unfold pollEntry
  cases p.pollLimit <;> rfl

/-- In S7's work no statement but the compare of MATCH writes `DESC`, and none a direction. -/
theorem stageCode_keeps (p : Params) (e : Descriptor) (g : Stage) (hg : ∀ q, g ≠ .own q) (hc : g ≠ .compareEntry) :
    (stageCode p e g).all keepsBoth = true := by
  have key (n : Byte) : (signatureByteCode p n).all keepsBoth = true := framesCode_keeps _ _
  cases g with
  | own q => exact absurd rfl (hg q)
  | compareEntry => exact absurd rfl hc
  | readEntry => 
    simp only [stageCode, signatureCode, List.all_append, key]
    rfl
  | strobe k =>
    have h : (strobeCode p k (factoryValue e k)).all keepsBoth = true := framesCode_keeps _ _
    simp only [stageCode, List.all_cons, List.all_append, h, pollEntry_keeps]
    rfl
  | finish o k b =>
    have h : (finishCode p).all keepsBoth = true := framesCode_keeps _ _
    simp only [stageCode, List.all_append, h, pollEntry_keeps]
    rfl
  | readBack o k b =>
    have h : (readCode p k).all keepsBoth = true := framesCode_keeps _ _
    simp only [stageCode, readBackCode, List.all_append, h]
    rfl
  | testEntry => rfl
  | testFound => rfl
  | testExt => rfl
  | skipExt => rfl
  | noMatch => rfl
  | settle => rfl

theorem stageCode_ne_nil (p : Params) (e : Descriptor) (g : Stage) (hg : g ≠ .own .idle) : stageCode p e g ≠ [] := by
  cases g with
  | own q => cases q <;> first | exact absurd rfl hg | exact List.cons_ne_nil _ _
  | _ => exact List.cons_ne_nil _ _

/-- S7's work, stage by stage: from the first statement of a stage to where the sequencer goes on. -/
theorem reaches_work (g : Stage) (s : State) (hg : ∀ q, g ≠ .own q) (hr : Readable s) :
    Reaches (moveTo (.within g 0) s)
      (moveTo (stageExit g (perform (stageCode s.params s.desc g).dropLast s)) (perform (stageCode s.params s.desc g) s)) := by
  by_cases hc : g = .compareEntry
  · subst hc
    exact reaches_stage _ s (List.cons_ne_nil _ _) (.inr ⟨hr, fun c hc => by simp [stageCode] at hc; subst hc; rfl⟩)
      (fun c hc => by simp [stageCode] at hc)
  · have h := stageCode_keeps s.params s.desc g hg hc
    rw [List.all_eq_true] at h
    have h1 (c : Stmt) (hc : c ∈ stageCode s.params s.desc g) : keepsDir c = true ∧ keepsDesc c = true :=
      (Bool.and_eq_true _ _).mp (h c hc)
    exact reaches_stage g s (stageCode_ne_nil _ _ _ (hg _)) (.inr ⟨hr, fun c hc => (h1 c hc).1⟩)
      (fun c hc => (h1 c (List.mem_of_mem_dropLast hc)).2)

/-- A session step's own statements read nothing and leave `DESC` alone. -/
theorem sessionCode_reads (p : Params) (q : SessionStep) :
    (sessionCode p q).all (fun c => !c.reads && keepsDesc c) = true := by
  cases q <;> rfl

/-- A session step, from its first statement to where the sequencer goes on. -/
theorem reaches_own (q : SessionStep) (s : State) (hq : q ≠ .idle) (hs : s.seq = .due q) :
    Reaches s (moveTo (afterStep q) (perform (sessionCode s.params q) s)) := by
  have h := sessionCode_reads s.params q
  rw [List.all_eq_true] at h
  have h1 (c : Stmt) (hc : c ∈ stageCode s.params s.desc (.own q)) : c.reads = false ∧ keepsDesc c = true := by
    have := h c hc
    simpa using this
  have hne : stageCode s.params s.desc (.own q) ≠ [] := stageCode_ne_nil _ _ _ (by simpa using hq)
  have hr := reaches_stage (.own q) s hne (.inl fun c hc => (h1 c hc).1) (fun c hc => (h1 c (List.mem_of_mem_dropLast hc)).2)
  obtain ⟨n, hn⟩ := hr
  have hstep : step s = step (moveTo (.within (.own q) 0) s) := by
    rw [step_due q s hs hq, step_within (.own q) 0 _ rfl, runAt_moveTo]
  cases n with
  | zero =>
    injection hn with h2
    have h3 : Seq.within (.own q) 0 = afterStep q := congrArg State.seq h2
    cases q <;> cases h3
  | succ n =>
    refine ⟨n + 1, ?_⟩
    show Host.Core.run core (n + 1) s = _
    have e : Host.Core.run core (n + 1) s = Host.Core.run core (n + 1) (moveTo (.within (.own q) 0) s) := by
      have h2 : core.step s = core.step (moveTo (.within (.own q) 0) s) := hstep
      simp only [Host.Core.run, h2]
    rw [e]
    exact hn

/-! ### POLL, step by step -/

/-- A step in a POLL that samples 1. -/
theorem reaches_poll_high (s : State) (site : PollSite) (back : SessionStep) (hr : Readable s) (hq : s.seq = .polling site back)
    (h : s.sample 0 = true) : Reaches s (moveTo (Machine.afterPoll site back) (afterSample true (s.pcnt + 1) s)) := by
  refine reaches_step ?_
  rw [step_polling s site back hq]
  show readingSdo pollStep s = _
  rw [readingSdo_readable _ _ hr, pollStep, hq]
  exact congrArg _ (pollOnce_ready site back _ s h)

theorem enterPoll_readable (s : State) (hr : Readable s) : Readable (enterPoll s) := by
  rw [enterPoll, pollEntry_perform]
  split
  · exact hr
  · exact hr

/-- The first sample of a POLL just begun reads 1. -/
theorem reaches_enter_high (s : State) (site : PollSite) (back : SessionStep) (hr : Readable s) (h : s.sample 0 = true) :
    Reaches (moveTo (.polling site back) (enterPoll s)) (moveTo (Machine.afterPoll site back) (afterSample true 1 s)) := by
  have hr' : Readable (moveTo (.polling site back) (enterPoll s)) := enterPoll_readable s hr
  have h' : (moveTo (.polling site back) (enterPoll s)).sample 0 = true := (enterPoll_sample s 0).trans h
  have e : afterSample true ((enterPoll s).pcnt + 1) (enterPoll s) = afterSample true 1 s := by
    rw [← h, ← pollSample_enterPoll, pollSample_eq, enterPoll_sample]
  have hs := reaches_poll_high _ site back hr' rfl h'
  have e' : moveTo (Machine.afterPoll site back) (afterSample true ((enterPoll s).pcnt + 1) (moveTo (.polling site back) (enterPoll s))) =
      moveTo (Machine.afterPoll site back) (afterSample true ((enterPoll s).pcnt + 1) (enterPoll s)) := rfl
  rw [← e, ← e']
  exact hs

/-- The first sample of a POLL just begun reads 0. -/
theorem reaches_enter_low (s : State) (site : PollSite) (back : SessionStep) (hr : Readable s) (h : s.sample 0 = false) :
    Reaches (moveTo (.polling site back) (enterPoll s)) (afterFirstLow site back s) := by
  have hr' : Readable (moveTo (.polling site back) (enterPoll s)) := enterPoll_readable s hr
  have h1 : (moveTo (.polling site back) (enterPoll s)).sample 0 = false := (enterPoll_sample s 0).trans h
  have h2 : pollSample (moveTo (.polling site back) (enterPoll s)) = moveTo (.polling site back) (pollSample (enterPoll s)) := by
    rw [pollSample_eq, pollSample_eq]
    rfl
  have h3 : pollExpired (moveTo (.polling site back) (pollSample (enterPoll s))) = pollExpired (pollSample (enterPoll s)) := rfl
  refine reaches_step ?_
  rw [step_polling _ site back rfl]
  show readingSdo pollStep _ = _
  rw [readingSdo_readable _ _ hr', pollStep, ← pollFrom_low site back (moveTo (Machine.afterPoll site back)) s h]
  refine congrArg Host.Outcome.next ?_
  show pollOnce site back _ (moveTo (.polling site back) (enterPoll s)) = pollOnce site back _ (enterPoll s)
  unfold pollOnce
  rw [h1, h2, h3, (enterPoll_sample s 0).trans h]
  simp only [Bool.false_eq_true, if_false]
  split
  · rw [abandonSession, abandonSession, raise_eq, raise_eq]
    rfl
  · rfl

/-! ### The stages of a VERIFY and of MATCH, each from its first statement to where the sequencer goes on -/

/-- The strobe of a VERIFY in a session, up to its first POLL. -/
theorem reaches_strobe (k : Kind) (s : State) (hr : Readable s) :
    Reaches (moveTo (.within (.strobe k) 0) s)
      (moveTo (.polling (.fuseWrite .operate k false) .s8)
        (enterPoll (afterStrobe k.writeA k.writeB (kindDefault s.desc k) (withSessionVerify k s)))) := by
  have h := reaches_work (.strobe k) s (by intro q; simp) hr
  have hv : factoryValue s.desc k = kindDefault s.desc k := by cases k <;> rfl
  have hA : writeByteA k = k.writeA := by cases k <;> rfl
  have hB : writeByteB k = k.writeB := by cases k <;> rfl
  have hb : (Stmt.beginVerify k (factoryValue s.desc k)).act s = withSessionVerify k s := by
    rw [hv]
    rfl
  have hp : perform (strobeCode s.params k (factoryValue s.desc k)) (withSessionVerify k s) =
      afterStrobe k.writeA k.writeB (kindDefault s.desc k) (withSessionVerify k s) := by
    rw [hv, ← hA, ← hB]
    exact strobe_eq k _ (withSessionVerify k s)
  have hpar : (afterStrobe k.writeA k.writeB (kindDefault s.desc k) (withSessionVerify k s)).params = s.params :=
    (afterFrames_keeps _ _).1
  simp only [stageCode, stageExit, perform_cons, perform_append, hb, hp] at h
  rw [← hpar] at h
  exact h

/-- The final frame of a write, up to its second POLL. -/
theorem reaches_finish (o : WriteOwner) (k : Kind) (back : SessionStep) (s : State) (hr : Readable s) :
    Reaches (moveTo (.within (.finish o k back) 0) s)
      (moveTo (.polling (.fuseWrite o k true) back) (enterPoll (afterFrame 0x00 0x4C s))) := by
  have h := reaches_work (.finish o k back) s (by intro q; simp) hr
  simp only [stageCode, stageExit, perform_append, finishCode_perform] at h
  exact h

/-- The read back and the compare of a VERIFY. -/
theorem reaches_readBack (o : WriteOwner) (k : Kind) (back : SessionStep) (s : State) (hr : Readable s) :
    Reaches (moveTo (.within (.readBack o k back) 0) s) (moveTo (stageExit (.readBack o k back) s) (verified k s)) := by
  have h := reaches_work (.readBack o k back) s (by intro q; simp) hr
  have hp : perform (readBackCode s.params k) s = verified k s := endVerify_verified k s
  simp only [stageCode, hp, stageExit] at h ⊢
  exact h

/-- The sentinel test of one entry. -/
theorem reaches_testEntry (s : State) (hr : Readable s) :
    Reaches (moveTo (.within .testEntry 0) s)
      (moveTo (if atSentinel s then .within .testFound 0 else .within .readEntry 0) (testSentinel s)) :=
  reaches_work .testEntry s (by intro q; simp) hr

/-- The three reads of one entry. -/
theorem reaches_readEntry (s : State) (hr : Readable s) :
    Reaches (moveTo (.within .readEntry 0) s) (moveTo (.within .compareEntry 0) (readSignature s)) := by
  have h := reaches_work .readEntry s (by intro q; simp) hr
  simp only [stageExit, stageCode] at h
  unfold readSignature
  exact h

/-- The compare of one entry. -/
theorem reaches_compareEntry (s : State) (hr : Readable s) :
    Reaches (moveTo (.within .compareEntry 0) s)
      (moveTo (if entryMatches s then .within .testFound 0 else .within .testEntry 0) (compareSignature s)) :=
  reaches_work .compareEntry s (by intro q; simp) hr

/-- What a next state of one statement says. -/
theorem run_next (c : Stmt) (q : Seq) {s t : State} (h : c.run q s = .next t) :
    (c.reads = true → Readable s) ∧ t = moveTo q (c.act s) := by
  unfold Stmt.run at h
  split at h
  · exact ⟨fun _ => (readingSdo_next h).1, (readingSdo_next h).2⟩
  · rename_i hr
    cases h
    exact ⟨fun h' => absurd h' hr, rfl⟩

/-- What a next state of a step within a stage says: which statement ran, and where the sequencer went. -/
theorem runAt_next {g : Stage} {n : Nat} {s t : State} (hn : n < (stageCode s.params s.desc g).length) (h : runAt g n s = .next t) :
    ∃ c, (stageCode s.params s.desc g)[n]? = some c ∧ (c.reads = true → Readable s) ∧
      t = moveTo (if n + 1 < (stageCode s.params s.desc g).length then .within g (n + 1) else stageExit g s) (c.act s) := by
  unfold runAt at h
  rw [List.getElem?_eq_getElem hn] at h ⊢
  exact ⟨_, rfl, run_next _ _ h⟩

end Sys2Proof.Laws
end

