-- ==== Sys2Proof/Tests/Slice0.lean ====
section
/-! SUPPORT. The author's own tests. Expected results are those of spec/95_test_vectors.md or worked by hand from the rule cited; each
test takes one step on a small state. The second half holds a witness for every obligation with hypotheses. -/

namespace Sys2Proof.Tests

open Sys2Proof.Machine Sys2Proof.Safety Sys2Proof.Claims

/-! ### Small states and answers -/

/-- The engine as S6 leaves it, before S7, with these answers lined up on SDO. -/
def entered (bits : List Bool) : State :=
  { State.reset with lines := operatingLines, st := .modeEntering, seq := .due .s7, sdoIn := bits }

/-- `n` answers of 0. -/
def low (n : Nat) : List Bool := List.replicate n false

/-- The answers of frames whose responses are these bytes. -/
def responses (rs : List Byte) : List Bool := rs.flatMap bitsMsbFirst

/-- The answers to the twelve frames of one table entry (V3, V5): each fourth response is a signature byte. -/
def signature (a b c : Byte) : List Bool :=
  responses [0xFF, 0xFF, 0xFF, a, 0xFF, 0xFF, 0xFF, b, 0xFF, 0xFF, 0xFF, c]

/-- The answers to a write whose POLLs are answered at once (V6). -/
def writeAnswers : List Bool := low 32 ++ [true] ++ low 8 ++ [true]

/-- The answers to a VERIFY that reads back `r` (V8). -/
def verifyAnswers (r : Byte) : List Bool := writeAnswers ++ low 16 ++ bitsMsbFirst r

/-- The same with each POLL answered 0 `n` times first (`busyN = n` of V9). -/
def busyAnswers (n : Nat) (r : Byte) : List Bool := low (32 + n) ++ [true] ++ low (8 + n) ++ [true] ++ low 16 ++ bitsMsbFirst r

/-- The engine waiting in a POLL. -/
def waiting (site : PollSite) (back : SessionStep) (bits : List Bool) : State :=
  { entered bits with st := .operating, seq := .polling site back }

/-- The engine within a stage of S7's work. -/
def working (g : Stage) (n : Nat) (bits : List Bool) : State := { entered bits with st := .operating, seq := .within g n }

/-- The engine with another device table. -/
def withTable (es : List Descriptor) (s : State) : State := { s with params := { s.params with deviceTable := es } }

/-- The engine in the bounded variant. -/
def bounded (n : Nat) (s : State) : State := { s with params := { s.params with pollLimit := some n } }

/-- The engine with Start presented at the next look. -/
def asked (s : State) : State := { s with startIn := [true] }

/-- The fictitious descriptor B of V5. -/
def deviceB : Descriptor := ⟨⟨0x1E, 0x91, 0x09⟩, 0x11, 0x22, 0x33⟩

/-- What a next state shows. -/
def shows {α : Type} (r : Result) (f : State → α) : Option α :=
  match r with
  | .next t => some (f t)
  | .fault _ => none
  | .refused _ => none

/-- What a result is refused for. -/
def refusal (r : Result) : Option Refusal :=
  match r with
  | .next _ => none
  | .fault _ => none
  | .refused e => some e

/-- The next state of a result, where it is one. -/
def after (r : Result) : State :=
  match r with
  | .next t => t
  | .fault _ => State.reset
  | .refused _ => State.reset

theorem next_after (r : Result) (h : (shows r (fun _ => ())).isSome = true) : r = .next (after r) := by
  cases r
  · rfl
  · cases h
  · cases h

/-! ### Well-formedness: each check refuses an ill-formed term -/

theorem test_ldaddr_index_three_ill_formed : (Instr.ldaddr 3).wellFormed = false := by decide
theorem test_ldaddr_index_two_well_formed : (Instr.ldaddr 2).wellFormed = true := by decide
theorem test_rdsig_index_three_ill_formed : (Instr.rdsig 3).wellFormed = false := by decide
theorem test_rdsig_index_two_well_formed : (Instr.rdsig 2).wellFormed = true := by decide
theorem test_defaults_well_formed : Config.defaults.wellFormed = true := by decide
theorem test_sentinel_entry_refused :
    { Config.defaults with deviceTable := [⟨⟨0, 0, 0⟩, 1, 1, 1⟩] }.tableWellFormed = false := by decide
theorem test_duplicate_signature_refused :
    { Config.defaults with deviceTable := [Config.attiny25, { Config.attiny25 with low := 0 }] }.tableWellFormed = false := by
  decide
theorem test_limit_zero_refused : { Config.defaults with pollLimit := some 0 }.limitWellFormed = false := by decide
theorem test_short_clock_refused : { Config.defaults with tSciHigh := 219 }.timesWellFormed = false := by decide
theorem test_short_supply_wait_refused : { Config.defaults with tVccToHv := 19999 }.timesWellFormed = false := by decide
theorem test_long_supply_wait_refused : { Config.defaults with tVccToHv := 60001 }.timesWellFormed = false := by decide
theorem test_short_hold_refused : { Config.defaults with tHvHold := 9999 }.timesWellFormed = false := by decide
theorem test_short_entry_refused : { Config.defaults with tEntry := 299999 }.timesWellFormed = false := by decide
theorem test_short_teardown_refused : { Config.defaults with tDown := 9999 }.timesWellFormed = false := by decide

/-! ### Decoding: words written out from the encodings of spec/opcode_table.json -/

theorem test_word_ldcmd_sig : decode .idle 0b0100110000001000 = .ok .ldcmdSig := by decide
theorem test_word_ldaddr : decode .signature 0b0000110000000010 = .ok (.ldaddr 2) := by decide
theorem test_word_ldaddr_reserved : decode .signature 0b0000110000000011 = .error .reservedIndex := by decide
theorem test_word_ldaddr_masked_bits : decode .signature 0b0000110000000100 = .ok (.xfer 0x04 0x0C) := by decide
theorem test_word_sigsetup : decode .signature 0b0110100000000000 = .ok .sigsetup := by decide
theorem test_word_sigread : decode .signature 0b0110110000000000 = .ok .sigread := by decide
theorem test_word_ldcmd_wf : decode .idle 0b0100110001000000 = .ok .ldcmdWf := by decide
theorem test_word_lddata : decode .writeFuse 0b0010110011011111 = .ok (.lddata 0xDF) := by decide
theorem test_word_wf_l_a : decode .writeFuse 0b0110010000000000 = .ok .wfLA := by decide
theorem test_word_wf_l_b : decode .writeFuse 0b0110110000000000 = .ok .wfLB := by decide
theorem test_word_wf_h_a : decode .writeFuse 0b0111010000000000 = .ok .wfHA := by decide
theorem test_word_wf_h_b : decode .writeFuse 0b0111110000000000 = .ok .wfHB := by decide
theorem test_word_wf_e_a : decode .writeFuse 0b0110011000000000 = .ok .wfEA := by decide
theorem test_word_wf_e_b : decode .writeFuse 0b0110111000000000 = .ok .wfEB := by decide
theorem test_word_ldcmd_nop : decode .writeFuse 0b0100110000000000 = .ok .ldcmdNop := by decide
theorem test_word_ldcmd_rf : decode .idle 0b0100110000000100 = .ok .ldcmdRf := by decide
theorem test_word_rf_l_a : decode .readFuse 0b0110100000000000 = .ok .rfLA := by decide
theorem test_word_rf_l_b : decode .readFuse 0b0110110000000000 = .ok .rfLB := by decide
theorem test_word_rf_h_a : decode .readFuse 0b0111101000000000 = .ok .rfHA := by decide
theorem test_word_rf_h_b : decode .readFuse 0b0111111000000000 = .ok .rfHB := by decide
theorem test_word_rf_e_a : decode .readFuse 0b0110101000000000 = .ok .rfEA := by decide
theorem test_word_rf_e_b : decode .readFuse 0b0110111000000000 = .ok .rfEB := by decide
theorem test_word_xfer : decode .idle 0b0011110010100101 = .ok (.xfer 0xA5 0x3C) := by decide

/-- The words of WRFUSE.H and RDFUSE.H (V6, V7), read back with the loaded command threaded through (R98). -/
theorem test_words_of_fuse_sequences : decodeFrames .idle [0x4C40, 0x2CDF, 0x7400, 0x7C00, 0x4C00, 0x4C04, 0x7A00, 0x7E00] =
    .ok [.ldcmdWf, .lddata 0xDF, .wfHA, .wfHB, .ldcmdNop, .ldcmdRf, .rfHA, .rfHB] := by decide

/-- The bus encodings of the table's SEQ rows. -/
theorem test_encode_rdsig : encode (.rdsig 1) = some [.frame 0x4C08, .frame 0x0C01, .frame 0x6800, .frame 0x6C00] := by decide
theorem test_encode_wrfuse_e : encode (.wrfuseE 0x33) =
    some [.frame 0x4C40, .frame 0x2C33, .frame 0x6600, .frame 0x6E00, .poll, .frame 0x4C00, .poll] := by decide
theorem test_encode_rdfuse_e : encode .rdfuseE = some [.frame 0x4C04, .frame 0x6A00, .frame 0x6E00] := by decide

/-- The host's numbering, and a word several roles share read as the table's first (R98). -/
theorem test_table_word_shared : decodeTableWord 16 0x6C00 = some .sigread := by decide
theorem test_table_word_lddata : decodeTableWord 16 0x2C62 = some (.lddata 0x62) := by decide

/-- Line patterns (V2). -/
theorem test_pattern_62 : slotPattern 0x62 = [false, false, true, true, false, false, false, true, false, false, false] := by decide
theorem test_pattern_bad_start : readSlots [true, false, false, false, false, false, false, false, false, false, false] = none := by decide
theorem test_slots_read : decodeSlots .writeFuse (slotPattern 0x62) (slotPattern 0x2C) = .ok (.lddata 0x62) := by decide

/-! ### PULSE, frames and POLL (V0 to V2, V4) -/

theorem test_pulse_events : shows (exec .pulse (entered [])) (fun t => (t.trace, t.lines)) =
    some ([.setLevel .sci false, .waitAtLeast 1000, .setLevel .sci true], operatingLines) := by decide
theorem test_pulse_refused_clock_high :
    refusal (exec .pulse (setLevel .sci true (entered []))) = some .pulseOutsideFrame := by decide

/-- V1: DSR, ISR, RSR, SLOT and the number of events at the end. -/
theorem test_xfer_registers : shows (exec (.xfer 0x08 0x4C) (entered (responses [0xFF])))
    (fun t => (t.dsr, t.isr, t.rsr, t.slot, t.trace.length)) = some (0x00, 0x00, 0xFF, 10, 51) := by decide
/-- V2: the levels at the eleven pulses of (0xA5, 0x3C). -/
theorem test_xfer_levels : shows (exec (.xfer 0xA5 0x3C) (entered (low 8)))
    (fun t => latchedPairs operatingLines t.trace.reverse) =
    some ([false, true, false, true, false, false, true, false, true, false, false].zip
      [false, false, false, true, true, true, true, false, false, false, false]) := by decide
/-- V2, response packing. -/
theorem test_response_first_sample_top : shows (exec (.xfer 0x00 0x00) (entered [true, false, false, false, false, false, false, false]))
    (fun t => t.rsr) = some 0x80 := by decide
theorem test_frame_refused_while_driven :
    refusal (exec .sigread { entered [] with lines := sessionLines .output false true }) = some .sdoDriven := by decide

/-- What a frame role puts on SDI and SII at the pulses, as the two bytes of the slots 1 to 8. -/
def sent (i : Instr) : Option (Byte × Byte) :=
  shows (exec i (entered (low 8))) (fun t =>
    (packBits (((latchedPairs operatingLines t.trace.reverse).drop 1).take 8 |>.map Prod.fst),
      packBits (((latchedPairs operatingLines t.trace.reverse).drop 1).take 8 |>.map Prod.snd)))

theorem test_sent_ldcmd_sig : sent .ldcmdSig = some (0x08, 0x4C) := by decide
theorem test_sent_ldaddr : sent (.ldaddr 2) = some (0x02, 0x0C) := by decide
theorem test_ldaddr_three_refused : refusal (exec (.ldaddr 3) (entered [])) = some .signatureIndex := by decide
theorem test_sent_sigsetup : sent .sigsetup = some (0x00, 0x68) := by decide
theorem test_sent_sigread : sent .sigread = some (0x00, 0x6C) := by decide
theorem test_sent_ldcmd_wf : sent .ldcmdWf = some (0x40, 0x4C) := by decide
theorem test_sent_lddata : sent (.lddata 0x62) = some (0x62, 0x2C) := by decide
theorem test_sent_wf_l_a : sent .wfLA = some (0x00, 0x64) := by decide
theorem test_sent_wf_l_b : sent .wfLB = some (0x00, 0x6C) := by decide
theorem test_sent_wf_h_a : sent .wfHA = some (0x00, 0x74) := by decide
theorem test_sent_wf_h_b : sent .wfHB = some (0x00, 0x7C) := by decide
theorem test_sent_wf_e_a : sent .wfEA = some (0x00, 0x66) := by decide
theorem test_sent_wf_e_b : sent .wfEB = some (0x00, 0x6E) := by decide
theorem test_sent_ldcmd_nop : sent .ldcmdNop = some (0x00, 0x4C) := by decide
theorem test_sent_ldcmd_rf : sent .ldcmdRf = some (0x04, 0x4C) := by decide
theorem test_sent_rf_l_a : sent .rfLA = some (0x00, 0x68) := by decide
theorem test_sent_rf_l_b : sent .rfLB = some (0x00, 0x6C) := by decide
theorem test_sent_rf_h_a : sent .rfHA = some (0x00, 0x7A) := by decide
theorem test_sent_rf_h_b : sent .rfHB = some (0x00, 0x7E) := by decide
theorem test_sent_rf_e_a : sent .rfEA = some (0x00, 0x6A) := by decide
theorem test_sent_rf_e_b : sent .rfEB = some (0x00, 0x6E) := by decide

/-- V4: one sample of 1 returns, one of 0 stays. -/
theorem test_poll_returns : shows (exec .poll (entered [true])) (fun t => (t.seq, t.trace)) =
    some (.due .s7, [.readLevel .sdo true]) := by decide
theorem test_poll_stays : shows (exec .poll (entered [false])) (fun t => (t.seq, t.trace)) =
    some (.polling .alone .s7, [.readLevel .sdo false]) := by decide
/-- V4, `POLL_LIMIT = some 3`: the third 0 ends it. -/
theorem test_poll_expires : shows (exec .poll { bounded 3 (waiting .alone .s7 [false]) with pcnt := 2 })
    (fun t => (t.seq, t.fail, t.outcome, t.pcnt)) = some (.due .s8, .targetUnresponsive, false, 3) := by decide

/-! ### The matcher (V3, V5) -/

theorem test_rdsig_fourth_response : shows (exec (.rdsig 0) (entered (responses [0x12, 0x34, 0x56, 0x78]))) (fun t => t.rsr) =
    some 0x78 := by decide
theorem test_rdsig_three_refused : refusal (exec (.rdsig 3) (entered [])) = some .signatureIndex := by decide
/-- V5 row 5: table [B, A], the target answers A's signature. -/
theorem test_match_second_entry :
    shows (exec .matchDevice (withTable [deviceB, Config.attiny25] (entered (signature 0x1E 0x91 0x08 ++ signature 0x1E 0x91 0x08))))
      (fun t => (t.found, t.desc, t.ent, t.fail)) = some (true, Config.attiny25, 1, .none) := by decide +kernel
/-- V5 row 10: one bit differs. -/
theorem test_match_one_bit_differs : shows (exec .matchDevice (entered (signature 0x1E 0x91 0x88))) (fun t => (t.found, t.ent, t.fail)) =
    some (false, 1, .unknownDevice) := by decide +kernel

/-! ### Fuse operations (V6 to V8) -/

theorem test_wrfuse_l_ends : shows (exec (.wrfuseL 0x62) (entered writeAnswers)) (fun t => (t.seq, t.sdoDraws, t.trace.countP isRise)) =
    some (.due .s7, 42, 55) := by decide +kernel
theorem test_wrfuse_l_waits : shows (exec (.wrfuseL 0x62) (entered (low 33))) (fun t => (t.seq, t.sdoDraws, t.trace.countP isRise)) =
    some (.polling (.fuseWrite .write .low false) .s7, 33, 44) := by decide +kernel
theorem test_wrfuse_h_second_poll : shows (exec (.wrfuseH 0xDF) (entered (low 32 ++ [true] ++ low 9))) (fun t => (t.seq, t.sdoDraws)) =
    some (.polling (.fuseWrite .write .high true) .s7, 42) := by decide +kernel
theorem test_wrfuse_e_gives_up : shows (exec (.wrfuseE 0x33) (bounded 1 (entered (low 33)))) (fun t => (t.seq, t.fail)) =
    some (.due .s8, .targetUnresponsive) := by decide
theorem test_rdfuse_l_third_response : shows (exec .rdfuseL (entered (responses [0xAA, 0xBB, 0xCC]))) (fun t => t.rsr) = some 0xCC := by
  decide
theorem test_rdfuse_h_third_response : shows (exec .rdfuseH (entered (responses [0xFF, 0xFF, 0xDF]))) (fun t => t.rsr) = some 0xDF := by
  decide
theorem test_rdfuse_e_third_response : shows (exec .rdfuseE (entered (responses [0xFF, 0xFF, 0x33]))) (fun t => t.rsr) = some 0x33 := by
  decide
theorem test_verify_l_equal : shows (exec (.verifyL 0x62) (entered (verifyAnswers 0x62)))
    (fun t => (t.okl, t.wval, t.rval, t.fail, t.seq)) = some (true, 0x62, 0x62, .none, .due .s7) := by decide +kernel
theorem test_verify_l_one_bit : shows (exec (.verifyL 0x62) (entered (verifyAnswers 0x63)))
    (fun t => (t.okl, t.wval, t.rval, t.fail)) = some (false, 0x62, 0x63, .verifyMismatch) := by decide +kernel
theorem test_verify_h_unequal : shows (exec (.verifyH 0xDF) (entered (verifyAnswers 0xFF)))
    (fun t => (t.okh, t.kind, t.rval, t.fail)) = some (false, .high, 0xFF, .verifyMismatch) := by decide +kernel
theorem test_verify_e_equal : shows (exec (.verifyE 0x33) (entered (verifyAnswers 0x33)))
    (fun t => (t.oke, t.kind, t.rval, t.fail)) = some (true, .ext, 0x33, .none) := by decide +kernel
theorem test_verify_e_skipped : shows (exec (.verifyE 0x33) { entered [] with found := true, desc := Config.attiny25 })
    (fun t => (t.oke, t.trace, t.wval)) = some (true, [], 0x00) := by decide

/-! ### The session (V9) -/

theorem test_start_clears : shows (exec .start { State.reset with done := true, fail := .unknownDevice })
    (fun t => (t.seq, t.done, t.fail, t.trace)) = some (.due .s1, false, .none, [.start]) := by decide
theorem test_start_ignored : shows (exec .start (waiting .alone .s7 [])) (fun t => t) = some (waiting .alone .s7 []) := by decide
theorem test_s1_lines : shows (exec .s1 (entered [])) (fun t => (t.lines, t.st, t.seq)) =
    some (sessionLines .output true false, .poweringUp, .due .s2) := by decide
theorem test_s2_supply : shows (exec .s2 { State.reset with st := .poweringUp }) (fun t => (t.lines.lvl.vcc, t.st, t.seq)) =
    some (true, .poweringUp, .due .s3) := by decide
theorem test_s3_events : shows (exec .s3 { State.reset with st := .poweringUp }) (fun t => (t.trace, t.st, t.seq)) =
    some ([.setLevel .rst false, .waitAtLeast 20000], .resetAsserted, .due .s4) := by decide
theorem test_s4_waits : shows (exec .s4 { State.reset with st := .resetAsserted }) (fun t => (t.trace, t.st, t.seq)) =
    some ([.waitAtLeast 10000], .resetAsserted, .due .s5) := by decide
theorem test_s5_releases : shows (exec .s5 { State.reset with lines := sessionLines .output false true, st := .resetAsserted })
    (fun t => (t.lines, t.st, t.seq)) = some (sessionLines .input false true, .modeEntering, .due .s6) := by decide
theorem test_s6_waits : shows (exec .s6 { State.reset with st := .modeEntering }) (fun t => (t.trace, t.st, t.seq)) =
    some ([.waitAtLeast 300000], .modeEntering, .due .s7) := by decide
/-- P3: no device matches. -/
theorem test_s7_unknown_device : shows (exec .s7 (entered (signature 0xFF 0xFF 0xFF)))
    (fun t => (t.outcome, t.fail, t.ent, t.trace.countP isRise, t.seq)) = some (false, .unknownDevice, 1, 132, .due .s8) := by decide +kernel
/-- P2 with every POLL answered at once: 28 frames, 308 pulses. -/
theorem test_s7_restores : shows (exec .s7 (entered (signature 0x1E 0x91 0x08 ++ verifyAnswers 0x62 ++ verifyAnswers 0xDF)))
    (fun t => (t.outcome, t.fail, t.kind, t.rval, t.trace.countP isRise)) = some (true, .none, .high, 0xDF, 308) := by decide +kernel
theorem test_s8_lines : shows (exec .s8 (entered [])) (fun t => (t.lines, t.st, t.trace.head?)) =
    some (sessionLines .input true false, .poweringDown, some (.setLevel .vcc false)) := by decide
theorem test_s9_publishes : shows (exec .s9 { State.reset with st := .poweringDown, outcome := true })
    (fun t => (t.st, t.done, published t, t.trace)) = some (.idle, true, some true, [.done true]) := by decide

/-! ### Single steps (R26, R73, R131, V1) -/

/-- The fourth statement of a frame is the first event of its first pulse. -/
theorem test_step_raises_clock : shows (step (working .readEntry 3 [])) (fun t => (t.trace, t.lines.lvl.sci, t.seq)) =
    some ([.setLevel .sci true], true, .within .readEntry 4) := by decide +kernel
/-- The sample of slot 1 enters RSR, and nothing is driven yet. -/
theorem test_step_samples : shows (step (working .readEntry 7 [true])) (fun t => (t.trace, t.rsr, t.seq)) =
    some ([.readLevel .sdo true], 0x01, .within .readEntry 8) := by decide +kernel
/-- The last of the 71 statements of a write's final frame (R170: then POLL). -/
theorem test_step_enters_poll : shows (step (working (.finish .operate .low .s8) 70 [])) (fun t => (t.trace, t.seq)) =
    some ([.setLevel .sci false], .polling (.fuseWrite .operate .low true) .s8) := by decide +kernel
/-- The compare of VERIFY.L, after three frames and `RVAL` (R178, R184: the high fuse follows a mismatch too). -/
theorem test_step_compares : shows (step { working (.readBack .operate .low .s8) 214 [] with wval := 0x62, rval := 0x63 })
    (fun t => (t.okl, t.fail, t.seq)) = some (false, .verifyMismatch, .within (.strobe .high) 0) := by decide +kernel
/-- Between the writes of a high and an extended fuse (R182). -/
theorem test_step_skips_ext : shows (step { working .testExt 0 [] with desc := Config.attiny25 }) (fun t => t.seq) =
    some (.within .skipExt 0) := by decide
theorem test_step_goes_on_to_ext : shows (step { working .testExt 0 [] with desc := deviceB }) (fun t => t.seq) =
    some (.within (.strobe .ext) 0) := by decide
/-- S8 changes `ST` before any line (D29), then the logic lines. -/
theorem test_step_s8_state_first : shows (step { entered [] with st := .operating, seq := .due .s8 }) (fun t => (t.st, t.trace, t.seq)) =
    some (.poweringDown, [], .within (.own .s8) 1) := by decide
theorem test_step_s8_lines_next : shows (step { entered [] with st := .poweringDown, seq := .within (.own .s8) 1 })
    (fun t => (t.trace, t.seq)) = some ([.setGroup [] [(.sci, false), (.sii, false), (.sdi, false)]], .within (.own .s8) 2) := by decide
/-- A command word with `i = 0x4C` and other data loads no command (log entry 14). -/
theorem test_other_load_keeps_command : decodeFrames .readFuse [0x4C99, 0x6C00] = .ok [.xfer 0x99 0x4C, .rfLB] := by decide

/-! ### Witnesses: a state and operands that meet all hypotheses of an obligation, clause by clause -/

theorem witness_FrameWordRoundTrip :
    ((Instr.ldaddr 2).wellFormed = true ∧ (∀ d ins, Instr.ldaddr 2 ≠ .xfer d ins) ∧ frameWord (.ldaddr 2) = some 0x0C02) ∧
    ¬ (LoadedCommand.signature = .signature ∧ (0x02 : Byte) = 0x03 ∧ (0x0C : Byte) = 0x0C) ∧
    ¬ (LoadedCommand.writeFuse = .signature ∧ (0x03 : Byte) = 0x03 ∧ (0x0C : Byte) = 0x0C) := by
  refine ⟨⟨by decide, by simp, by decide⟩, by decide, by decide⟩

theorem witness_BusSequenceRoundTrip :
    (Instr.verifyE 0xFF).wellFormed = true ∧ (∀ d ins, Instr.verifyE 0xFF ≠ .xfer d ins) ∧
    encode (.verifyE 0xFF) = some (writeSequence .ext 0xFF ++ readSequence .ext) := ⟨by decide, by simp, rfl⟩

theorem witness_DecodeRefusesOnlyReservedIndex : decode .signature 0x0C03 = .error .reservedIndex := by decide

theorem witness_PulseDrivesClockOnly : (entered []).lines.dir.sci = .output ∧ (entered []).lines.lvl.sci = false := by decide

theorem witness_PulseNeedsLowDrivenClock : State.reset.lines.dir.sci ≠ .output ∧
    (setLevel .sci true (entered [])).lines.lvl.sci = true := by decide

/-- For every obligation whose only hypothesis is `Readable s`. -/
theorem witness_TransferResult : Readable (entered []) := rfl
theorem witness_FrameRolesSendTheirBytes : Readable (entered []) := rfl
theorem witness_TransferCounts : Readable (entered []) := rfl
theorem witness_ResponseFirstSampleIsTopBit : Readable (entered (responses [0x80])) := rfl
theorem witness_LowAndHighReadSequences : Readable (entered []) := rfl
theorem witness_ExtendedReadSequence : Readable (entered []) := rfl

theorem witness_TransferLatchesPatterns : Readable (entered []) ∧ (entered []).lines.lvl.sci = false := ⟨rfl, rfl⟩

theorem witness_ReadsRefusedWhileDriven : { State.reset with lines := sessionLines .output true true }.lines.dir.sdo = .output ∧
    (frameBytes (.ldaddr 2)).isSome = true ∧ (Instr.ldaddr 2).wellFormed = true ∧ (2 : Byte).toNat ≤ 2 ∧ State.reset.found = false ∧
    State.reset.params.deviceTable[0]? = some Config.attiny25 ∧ Config.attiny25.sig ≠ Signature.sentinel := by decide

theorem witness_PollTakesOneSample :
    (Readable (entered [true]) ∧ (∀ site back, (entered [true]).seq ≠ .polling site back) ∧ (entered [true]).sample 0 = true) ∧
    (Readable (entered [false]) ∧ (∀ site back, (entered [false]).seq ≠ .polling site back) ∧ (entered [false]).sample 0 = false) ∧
    (bounded 1 (entered [false])).params.pollLimit = some 1 :=
  ⟨⟨rfl, by simp [entered], rfl⟩, ⟨rfl, by simp [entered], rfl⟩, rfl⟩

theorem witness_WaitingPollReturns :
    (Readable (waiting .alone .s7 [true]) ∧ (waiting .alone .s7 [true]).sample 0 = true ∧
      (waiting .alone .s7 [true]).seq = .polling .alone .s7) ∧
    (waiting (.fuseWrite .verify .ext false) .s7 [true]).seq = .polling (.fuseWrite .verify .ext false) .s7 ∧
    (waiting (.fuseWrite .write .high true) .s7 [true]).seq = .polling (.fuseWrite .write .high true) .s7 ∧
    (waiting (.fuseWrite .verify .low true) .s7 [true]).seq = .polling (.fuseWrite .verify .low true) .s7 ∧
    (waiting (.fuseWrite .operate .ext true) .s8 [true]).seq = .polling (.fuseWrite .operate .ext true) .s8 :=
  ⟨⟨rfl, rfl, rfl⟩, rfl, rfl, rfl, rfl⟩

/-- Unbounded, and bounded with the last sample before the limit. -/
theorem witness_UnansweredPollWaits :
    (Readable (waiting .alone .s7 (low 3)) ∧ (∀ m, (waiting .alone .s7 (low 3)).params.pollLimit = some m →
      (waiting .alone .s7 (low 3)).pcnt + 3 < m) ∧ ∀ k, k < 3 → (waiting .alone .s7 (low 3)).sample k = false) ∧
    (∀ m, (bounded 4 (waiting .alone .s7 (low 3))).params.pollLimit = some m →
      (bounded 4 (waiting .alone .s7 (low 3))).pcnt + 3 < m) := by
  refine ⟨⟨rfl, ?_, by decide⟩, ?_⟩
  · intro m h
    cases h
  · intro m h
    cases h
    decide

/-- A session in the first POLL of the low fuse's write, as P6 leaves it. -/
def hung (bits : List Bool) : State :=
  { waiting (.fuseWrite .operate .low false) .s8 bits with
    found := true, desc := Config.attiny25, sigb := ⟨0x1E, 0x91, 0x08⟩, wval := 0x62 }

/-- The invariant holds in a hung session. -/
theorem hung_inv (bits : List Bool) : EngineInv (hung bits) where
  inCode := trivial
  state := rfl
  lines := rfl
  afterSession := by
    intro h
    cases h
  running := fun _ => rfl
  noEarlyFailure := by
    intro h
    cases h
  work := ⟨rfl, rfl, ⟨⟨rfl, rfl, rfl, rfl⟩, (by intro h; cases h), fun _ => rfl, .inl rfl⟩, rfl, rfl⟩
  outcome := by
    intro h
    cases h

theorem witness_HungSessionKeepsTargetPowered :
    EngineInv (hung (low 2)) ∧ (hung (low 2)).seq = .polling (.fuseWrite .operate .low false) .s8 ∧
    (hung (low 2)).params.pollLimit = none ∧ ∀ k, k < 2 → (hung (low 2)).sample k = false :=
  ⟨hung_inv _, rfl, rfl, by decide⟩

/-- The limit three samples away, and one. -/
theorem witness_BoundedPollGivesUp :
    (Readable (bounded 3 (waiting .alone .s7 (low 3))) ∧ (bounded 3 (waiting .alone .s7 (low 3))).pcnt < 3 ∧
      ∀ k, k < 3 - (bounded 3 (waiting .alone .s7 (low 3))).pcnt → (bounded 3 (waiting .alone .s7 (low 3))).sample k = false) ∧
    ({ bounded 3 (waiting .alone .s7 (low 1)) with pcnt := 2 }.pcnt < 3 ∧ { bounded 3 (waiting .alone .s7 (low 1)) with pcnt := 2 }.sample 0 = false) :=
  ⟨⟨rfl, by decide, by decide⟩, by decide⟩

theorem witness_SignatureByteRead : ((2 : Byte).toNat ≤ 2 ∧ Readable (entered [])) ∧ 2 < (3 : Byte).toNat := ⟨⟨by decide, rfl⟩, by decide⟩

/-- Row 1 and row 4 of V5: the first entry, and the second after one passed over. -/
theorem witness_MatchSelectsFirstEqualEntry :
    (Readable (entered (signature 0x1E 0x91 0x08)) ∧ FirstMatch (entered (signature 0x1E 0x91 0x08)) 0 Config.attiny25) ∧
    FirstMatch (withTable [Config.attiny25, deviceB] (entered (signature 0x1E 0x91 0x09 ++ signature 0x1E 0x91 0x09))) 1 deviceB := by
  refine ⟨⟨rfl, fun j h => absurd h (by omega), rfl, by decide, by decide +kernel⟩, fun j h => ?_, rfl, by decide, by decide +kernel⟩
  obtain rfl : j = 0 := by omega
  exact ⟨Config.attiny25, rfl, by decide, by decide +kernel⟩

/-- Row 2 of V5, and the empty table. -/
theorem noMatch_row2 : NoMatch (entered (signature 0xFF 0xFF 0xFF)) 1 := by
  refine ⟨fun j h => ?_, .inl rfl⟩
  obtain rfl : j = 0 := by omega
  exact ⟨Config.attiny25, rfl, by decide, by decide +kernel⟩

theorem witness_MatchReportsUnknownDevice :
    (Readable (entered (signature 0xFF 0xFF 0xFF)) ∧ NoMatch (entered (signature 0xFF 0xFF 0xFF)) 1) ∧
    NoMatch (withTable [] (entered [])) 0 ∧ NoMatch (withTable [⟨⟨0, 0, 0⟩, 1, 2, 3⟩, deviceB] (entered [])) 0 :=
  ⟨⟨rfl, noMatch_row2⟩, ⟨fun j h => absurd h (by omega), .inl rfl⟩, ⟨fun j h => absurd h (by omega), .inr ⟨_, rfl, rfl⟩⟩⟩

theorem witness_MatchOfEmptyTableSendsNothing :
    (withTable [] State.reset).params.deviceTable[0]? = none ∧
    ∃ e, (withTable [⟨⟨0, 0, 0⟩, 1, 2, 3⟩] State.reset).params.deviceTable[0]? = some e ∧ e.sig = Signature.sentinel :=
  ⟨rfl, _, rfl, rfl⟩

theorem witness_MatchComparesAllTwentyFourBits :
    (∃ t, exec .matchDevice (entered (signature 0x1E 0x91 0x08)) = .next t ∧ t.found = true) ∧
    Readable (entered []) ∧ (entered []).params.deviceTable = [Config.attiny25] ∧ Config.attiny25.sig ≠ Signature.sentinel :=
  ⟨⟨_, rfl, by decide +kernel⟩, rfl, rfl, by decide⟩

/-- All three cases of a write. -/
theorem write_cases :
    (Readable (entered writeAnswers) ∧ (entered writeAnswers).sample 32 = true ∧ (entered writeAnswers).sample 41 = true) ∧
    (entered (low 33)).sample 32 = false ∧
    ((entered (low 32 ++ [true] ++ low 9)).sample 32 = true ∧ (entered (low 32 ++ [true] ++ low 9)).sample 41 = false) :=
  ⟨⟨rfl, by decide⟩, by decide⟩
theorem witness_LowAndHighWriteSequences :
    (Readable (entered writeAnswers) ∧ (entered writeAnswers).sample 32 = true ∧ (entered writeAnswers).sample 41 = true) ∧
    (entered (low 33)).sample 32 = false ∧
    ((entered (low 32 ++ [true] ++ low 9)).sample 32 = true ∧ (entered (low 32 ++ [true] ++ low 9)).sample 41 = false) := write_cases
theorem witness_ExtendedWriteSequence : Readable (entered writeAnswers) ∧ (entered writeAnswers).sample 32 = true ∧
    (entered writeAnswers).sample 41 = true := write_cases.1

theorem witness_WaitingWriteGoesOn :
    (Readable (waiting (.fuseWrite .write .ext false) .s7 ([true] ++ low 8 ++ [true])) ∧
      (waiting (.fuseWrite .write .ext false) .s7 ([true] ++ low 8 ++ [true])).sample 0 = true ∧
      (waiting (.fuseWrite .write .ext false) .s7 ([true] ++ low 8 ++ [true])).sample 9 = true) ∧
    (waiting (.fuseWrite .write .ext false) .s7 ([true] ++ low 9)).sample 9 = false ∧
    (waiting (.fuseWrite .write .ext true) .s7 [true]).seq = .polling (.fuseWrite .write .ext true) .s7 :=
  ⟨⟨rfl, by decide⟩, by decide, rfl⟩

theorem witness_VerifyLowResult : Readable (entered (verifyAnswers 0x62)) ∧ PollsReady (entered (verifyAnswers 0x62)) 0 :=
  ⟨rfl, by decide, by decide⟩
theorem witness_VerifyHighResult : Readable (entered (verifyAnswers 0xFF)) ∧ PollsReady (entered (verifyAnswers 0xFF)) 0 :=
  ⟨rfl, by decide, by decide⟩
theorem witness_VerifyExtendedResult :
    (Readable (entered (verifyAnswers 0x33)) ∧ PollsReady (entered (verifyAnswers 0x33)) 0 ∧
      ((entered (verifyAnswers 0x33)).found = true → (entered (verifyAnswers 0x33)).desc.ext ≠ 0x00)) ∧
    ({ entered [] with found := true }.found = true ∧ { entered [] with found := true }.desc.ext = 0x00) :=
  ⟨⟨rfl, ⟨by decide, by decide⟩, by decide⟩, by decide⟩

theorem witness_VerifyWaitsWhereWriteWaits :
    (∃ t, exec (.wrfuseL 0x62) (withVerify .low 0x62 (entered (low 33))) = .next t ∧ t.seq = .polling (.fuseWrite .write .low false) .s7) ∧
    (∃ t, exec (.wrfuseH 0xDF) (withVerify .high 0xDF (entered (low 32 ++ [true] ++ low 9))) = .next t ∧
      t.seq = .polling (.fuseWrite .write .high true) .s7) ∧
    (((entered (low 33)).found = true → (entered (low 33)).desc.ext ≠ 0x00) ∧
      ∃ t, exec (.wrfuseE 0x33) (withVerify .ext 0x33 (entered (low 33))) = .next t ∧ t.seq = .polling (.fuseWrite .write .ext false) .s7) :=
  ⟨⟨_, rfl, by decide⟩, ⟨_, rfl, by decide⟩, by decide, _, rfl, by decide⟩

/-- In the first POLL, with the second answered at once, and not; in the second. -/
theorem witness_WaitingVerifyEnds :
    (Readable (waiting (.fuseWrite .verify .low false) .s7 ([true] ++ low 8 ++ [true])) ∧
      (waiting (.fuseWrite .verify .low false) .s7 ([true] ++ low 8 ++ [true])).sample 0 = true ∧
      (waiting (.fuseWrite .verify .low false) .s7 ([true] ++ low 8 ++ [true])).sample 9 = true) ∧
    (waiting (.fuseWrite .verify .high false) .s7 ([true] ++ low 9)).sample 9 = false ∧
    (waiting (.fuseWrite .verify .ext true) .s7 [true]).seq = .polling (.fuseWrite .verify .ext true) .s7 :=
  ⟨⟨rfl, by decide⟩, by decide, rfl⟩

theorem witness_StartBeginsSessionOnlyInIdle : State.reset.st = .idle ∧ (entered []).st ≠ .idle := by decide

theorem witness_OperateWithoutMatch :
    Readable (entered (signature 0xFF 0xFF 0xFF)) ∧ NoMatch (entered (signature 0xFF 0xFF 0xFF)) 1 := ⟨rfl, noMatch_row2⟩

/-- P2: the answers of a session that restores both fuses. -/
def restoring : List Bool := signature 0x1E 0x91 0x08 ++ verifyAnswers 0x62 ++ verifyAnswers 0xDF

theorem witness_OperateRestoresTwoFuses :
    Readable (entered restoring) ∧ FirstMatch (entered restoring) 0 Config.attiny25 ∧ Config.attiny25.ext = 0x00 ∧
    PollsReady (entered restoring) (96 * (0 + 1)) ∧ PollsReady (entered restoring) (96 * (0 + 1) + 66) :=
  ⟨rfl, ⟨fun j h => absurd h (by omega), rfl, by decide, by decide +kernel⟩, rfl, ⟨rfl, rfl⟩, ⟨rfl, rfl⟩⟩

/-- A device with an extended fuse, alone in the table. -/
def restoringThree : State :=
  withTable [deviceB] (entered (signature 0x1E 0x91 0x09 ++ verifyAnswers 0x11 ++ verifyAnswers 0x22 ++ verifyAnswers 0x33))

theorem witness_OperateRestoresThreeFuses :
    Readable restoringThree ∧ FirstMatch restoringThree 0 deviceB ∧ deviceB.ext ≠ 0x00 ∧ PollsReady restoringThree (96 * (0 + 1)) ∧
    PollsReady restoringThree (96 * (0 + 1) + 66) ∧ PollsReady restoringThree (96 * (0 + 1) + 132) := by
  refine ⟨rfl, ⟨fun j h => absurd h (by omega), rfl, by decide, by decide +kernel⟩, by decide, ?_, ?_, ?_⟩ <;> exact ⟨rfl, rfl⟩

/-- MATCH and both VERIFYs as they run alone, for S7 on a device without, and on one with an extended fuse. -/
theorem witness_OperateIsMatchThenVerifies : (entered restoring).seq = .due .s7 ∧
    ∃ a b c, exec .matchDevice { entered restoring with st := .operating } = .next a ∧ a.found = true ∧
      exec (.verifyL a.desc.low) a = .next b ∧ b.seq = .due .s7 ∧ exec (.verifyH a.desc.high) b = .next c ∧ c.seq = .due .s7 ∧
      c.desc.ext = 0x00 :=
  ⟨rfl, _, _, _, next_after _ (by decide +kernel), by decide +kernel, next_after _ (by decide +kernel), by decide +kernel,
    next_after _ (by decide +kernel), by decide +kernel, by decide +kernel⟩

theorem witness_OperateIsMatchThenVerifies_ext : restoringThree.seq = .due .s7 ∧
    ∃ a b c d, exec .matchDevice { restoringThree with st := .operating } = .next a ∧ a.found = true ∧
      exec (.verifyL a.desc.low) a = .next b ∧ b.seq = .due .s7 ∧ exec (.verifyH a.desc.high) b = .next c ∧ c.seq = .due .s7 ∧
      c.desc.ext ≠ 0x00 ∧ exec (.verifyE c.desc.ext) c = .next d ∧ d.seq = .due .s7 :=
  ⟨rfl, _, _, _, _, next_after _ (by decide +kernel), by decide +kernel, next_after _ (by decide +kernel), by decide +kernel,
    next_after _ (by decide +kernel), by decide +kernel, by decide +kernel, next_after _ (by decide +kernel), by decide +kernel⟩

/-- The wait in VERIFY.L; with one sample allowed, the surrender there. -/
theorem witness_OperateWaitsWhereVerifyWaits : (entered (signature 0x1E 0x91 0x08 ++ low 33)).seq = .due .s7 ∧
    (∃ a b, exec .matchDevice { entered (signature 0x1E 0x91 0x08 ++ low 33) with st := .operating } = .next a ∧ a.found = true ∧
      exec (.verifyL a.desc.low) a = .next b ∧ b.seq = .polling (.fuseWrite .verify .low false) .s7) ∧
    ∃ a b, exec .matchDevice { bounded 1 (entered (signature 0x1E 0x91 0x08 ++ low 33)) with st := .operating } = .next a ∧
      a.found = true ∧ exec (.verifyL a.desc.low) a = .next b ∧ b.seq = .due .s8 :=
  ⟨rfl, ⟨_, _, next_after _ (by decide +kernel), by decide +kernel, next_after _ (by decide +kernel), by decide +kernel⟩,
    _, _, next_after _ (by decide +kernel), by decide +kernel, next_after _ (by decide +kernel), by decide +kernel⟩

/-- The wait in VERIFY.H. -/
theorem witness_OperateWaitsWhereVerifyWaits_high : (entered (signature 0x1E 0x91 0x08 ++ verifyAnswers 0x62 ++ low 33)).seq = .due .s7 ∧
    ∃ a b c, exec .matchDevice { entered (signature 0x1E 0x91 0x08 ++ verifyAnswers 0x62 ++ low 33) with st := .operating } = .next a ∧
      a.found = true ∧ exec (.verifyL a.desc.low) a = .next b ∧ b.seq = .due .s7 ∧ exec (.verifyH a.desc.high) b = .next c ∧
      c.seq = .polling (.fuseWrite .verify .high false) .s7 :=
  ⟨rfl, _, _, _, next_after _ (by decide +kernel), by decide +kernel, next_after _ (by decide +kernel), by decide +kernel,
    next_after _ (by decide +kernel), by decide +kernel⟩

/-- A device with an extended fuse whose VERIFY.E waits in its second POLL. -/
def waitingThree : State :=
  withTable [deviceB] (entered (signature 0x1E 0x91 0x09 ++ verifyAnswers 0x11 ++ verifyAnswers 0x22 ++ low 32 ++ [true] ++ low 9))

/-- The wait in VERIFY.E. -/
theorem witness_OperateWaitsWhereVerifyWaits_ext : waitingThree.seq = .due .s7 ∧
    ∃ a b c d, exec .matchDevice { waitingThree with st := .operating } = .next a ∧ a.found = true ∧
      exec (.verifyL a.desc.low) a = .next b ∧ b.seq = .due .s7 ∧ exec (.verifyH a.desc.high) b = .next c ∧ c.seq = .due .s7 ∧
      a.desc.ext ≠ 0x00 ∧ exec (.verifyE a.desc.ext) c = .next d ∧ d.seq = .polling (.fuseWrite .verify .ext true) .s7 :=
  ⟨rfl, _, _, _, _, next_after _ (by decide +kernel), by decide +kernel, next_after _ (by decide +kernel), by decide +kernel,
    next_after _ (by decide +kernel), by decide +kernel, by decide +kernel, next_after _ (by decide +kernel), by decide +kernel⟩

/-- From the beginning of a VERIFY, in its three cases; from a wait in the first POLL, in its two; from a wait in the second. -/
theorem witness_WaitingSessionGoesOn :
    (Readable (working (.strobe .low) 0 writeAnswers) ∧ (working (.strobe .low) 0 writeAnswers).seq = .within (.strobe .low) 0 ∧
      (working (.strobe .low) 0 writeAnswers).sample 32 = true ∧ (working (.strobe .low) 0 writeAnswers).sample 41 = true) ∧
    (working (.strobe .high) 0 (low 33)).sample 32 = false ∧
    ((working (.strobe .ext) 0 (low 32 ++ [true] ++ low 9)).sample 32 = true ∧
      (working (.strobe .ext) 0 (low 32 ++ [true] ++ low 9)).sample 41 = false) ∧
    (Readable (hung ([true] ++ low 8 ++ [true])) ∧ (hung ([true] ++ low 8 ++ [true])).seq = .polling (.fuseWrite .operate .low false) .s8 ∧
      (hung ([true] ++ low 8 ++ [true])).sample 0 = true ∧ (hung ([true] ++ low 8 ++ [true])).sample 9 = true) ∧
    (hung ([true] ++ low 9)).sample 9 = false ∧
    (waiting (.fuseWrite .operate .high true) .s8 [true]).seq = .polling (.fuseWrite .operate .high true) .s8 ∧
    (waiting (.fuseWrite .operate .ext true) .s8 [true]).seq = .polling (.fuseWrite .operate .ext true) .s8 :=
  ⟨⟨rfl, rfl, by decide⟩, by decide, by decide, ⟨rfl, rfl, by decide⟩, by decide, rfl, rfl⟩

theorem witness_StepRunsNamedOperation :
    (State.reset.seq = .due .idle ∧ { State.reset with seq := .due .s1 }.seq = .due .s1 ∧
      ∃ t, exec .s1 { State.reset with seq := .due .s1 } = .next t) ∧
    ((entered []).seq = .due .s7 ∧ ∃ t, exec .s7 (entered []) = .next t) ∧
    ∃ t, exec .s9 { State.reset with seq := .due .s9 } = .next t := ⟨⟨rfl, rfl, _, rfl⟩, ⟨rfl, _, rfl⟩, _, rfl⟩

theorem witness_PositionsNameOperations :
    (asked State.reset).seq = .due .idle ∧ (asked State.reset).startPresented = true ∧
    { State.reset with startIn := [false] }.startPresented = false ∧
    (waiting .alone .s7 []).seq = .polling .alone .s7 ∧
    (placeFrame State.reset 0x2C62).seq = .placed .writeFuse 0x2C62 ∧ decode .writeFuse 0x2C62 = .ok (.lddata 0x62) := by decide

theorem witness_PlacedWordRunsNext : 0x6C00 < 65536 ∧ decodeTableWord 16 0x6C00 = some .sigread := by decide

/-- The engine between sessions, as S9 leaves it, with Start presented. -/
def rested (bits : List Bool) : State :=
  { State.reset with lines := sessionLines .input true false, done := true, startIn := [true], sdoIn := bits }

/-- The invariant holds between sessions. -/
theorem rested_inv (bits : List Bool) : EngineInv (rested bits) where
  inCode := trivial
  state := rfl
  lines := by
    intro ls h
    cases h
  afterSession := fun _ _ => rfl
  running := fun h => absurd rfl h
  noEarlyFailure := by
    intro h
    cases h
  work := trivial
  outcome := by
    intro _ h
    cases h

/-- In slot 2 of the frame (0x08, 0x4C) that begins a signature read, about to drive bit 6 of both bytes. -/
def driving : State := { working .readEntry 15 [] with dsr := 0x10, isr := 0x98, slot := 2 }

theorem driving_inv : EngineInv driving where
  inCode := by
    show 15 < (signatureCode Config.defaults).length
    decide +kernel
  state := rfl
  lines := ⟨false, false, by decide +kernel, fun _ => ⟨rfl, rfl⟩⟩
  afterSession := by
    intro h
    cases h
  running := fun _ => rfl
  noEarlyFailure := by
    intro h
    cases h
  work := ⟨rfl, rfl, rfl⟩
  outcome := by
    intro h
    cases h

/-- A step that moves SII: bit 6 of 0x4C is 1. -/
theorem witness_StepIsOneStatement : EngineInv driving ∧ (∀ cmd cw, driving.seq ≠ .placed cmd cw) ∧ beforeFirstWrites driving.seq = false ∧
    ∃ t, step driving = .next t ∧ (t.lines.lvl.sdi, t.lines.lvl.sii) ≠ (driving.lines.lvl.sdi, driving.lines.lvl.sii) := by
  refine ⟨driving_inv, (by intro cmd cw h; cases h), rfl, _, next_after _ (by decide +kernel), by decide +kernel⟩

theorem witness_EveryStepKeepsInvariant : EngineInv (hung [true]) ∧ (∃ t, step (hung [true]) = .next t) ∧
    EngineInv (rested []) ∧ ∃ t, step (rested []) = .next t := ⟨hung_inv _, ⟨_, rfl⟩, rested_inv _, ⟨_, rfl⟩⟩

theorem witness_SessionNeverStops : EngineInv (hung []) ∧ ∀ cmd cw, (hung []).seq ≠ .placed cmd cw :=
  ⟨hung_inv _, by
    intro cmd cw h
    cases h⟩

theorem witness_LinesChangeOnlyByEvents : ∃ t, exec .s8 (entered []) = .next t := ⟨_, rfl⟩
theorem witness_ParametersNeverChange : ∃ t, exec (.verifyL 0x62) (entered (verifyAnswers 0x62)) = .next t := ⟨_, rfl⟩

/-- The engine as S7 leaves it after a session that found nothing. -/
def ending : State := { entered [] with st := .operating, seq := .due .s8, fail := .unknownDevice }

theorem ending_inv : EngineInv ending where
  inCode := trivial
  state := rfl
  lines := by
    intro ls h
    cases h
    rfl
  afterSession := by
    intro h
    cases h
  running := fun _ => rfl
  noEarlyFailure := by
    intro h
    cases h
  work := trivial
  outcome := by
    intro _ h
    cases h

/-- The teardown, with the high voltage still on, and so is the supply. -/
theorem witness_HighVoltageOnlyOnPoweredTarget : EngineInv ending ∧ beforeFirstWrites ending.seq = false ∧ ∃ t, step ending = .next t :=
  ⟨ending_inv, rfl, _, rfl⟩

theorem witness_SessionStateFollowsTable : EngineInv ending ∧ ∃ t, step ending = .next t := ⟨ending_inv, _, rfl⟩

theorem witness_SamplesOnlyWhileOperating : EngineInv ending ∧ ∃ t, step ending = .next t ∧ Added ending t [] ∧ t.st ≠ .operating :=
  ⟨ending_inv, _, rfl, rfl, by decide⟩

/-- P2: every POLL answered 0 twice before its 1. -/
def busySession : State := rested (signature 0x1E 0x91 0x08 ++ busyAnswers 2 0x62 ++ busyAnswers 2 0xDF)

/-- Both POLLs of a VERIFY answered after two low samples, where nothing limits them. -/
theorem busy_answered (b : Nat) (h1 : ∀ j, j < 2 → busySession.sample (b + 32 + j) = false) (h2 : busySession.sample (b + 34) = true)
    (h3 : ∀ j, j < 2 → busySession.sample (b + 43 + j) = false) (h4 : busySession.sample (b + 45) = true) :
    VerifyAnswered busySession b (2, 2) :=
  ⟨⟨h1, h2, (by intro n h; cases h)⟩, h3, h4, (by intro n h; cases h)⟩

theorem witness_RestoringSessionEnds :
    EngineInv busySession ∧ busySession.seq = .due .idle ∧ busySession.startPresented = true ∧
    FirstMatch busySession 0 Config.attiny25 ∧ VerifyAnswered busySession (96 * (0 + 1)) (2, 2) ∧
    VerifyAnswered busySession (verifyEnd (96 * (0 + 1)) (2, 2)) (2, 2) ∧
    (Config.attiny25.ext ≠ 0x00 → VerifyAnswered busySession (verifyEnd (verifyEnd (96 * (0 + 1)) (2, 2)) (2, 2)) (0, 0)) :=
  ⟨rested_inv _, rfl, rfl, ⟨fun j h => absurd h (by omega), rfl, by decide, by decide +kernel⟩,
    busy_answered _ (by decide +kernel) (by decide +kernel) (by decide +kernel) (by decide +kernel),
    busy_answered _ (by decide +kernel) (by decide +kernel) (by decide +kernel) (by decide +kernel), fun h => absurd rfl h⟩

/-- A session on a device with an extended fuse, in the bounded variant with one sample a POLL. -/
def threeSession : State :=
  bounded 1 (withTable [deviceB] (rested (signature 0x1E 0x91 0x09 ++ verifyAnswers 0x11 ++ verifyAnswers 0x22 ++ verifyAnswers 0x33)))

theorem threeSession_inv : EngineInv threeSession where
  inCode := trivial
  state := rfl
  lines := by
    intro ls h
    cases h
  afterSession := fun _ _ => rfl
  running := fun h => absurd rfl h
  noEarlyFailure := by
    intro h
    cases h
  work := trivial
  outcome := by
    intro _ h
    cases h

theorem three_answered (b : Nat) (h1 : threeSession.sample (b + 32) = true) (h2 : threeSession.sample (b + 41) = true) :
    VerifyAnswered threeSession b (0, 0) :=
  ⟨⟨fun j h => absurd h (by omega), h1, (by intro n h; cases h; decide)⟩, fun j h => absurd h (by omega), h2, (by intro n h; cases h; decide)⟩

theorem witness_RestoringSessionEnds_ext :
    EngineInv threeSession ∧ threeSession.seq = .due .idle ∧ threeSession.startPresented = true ∧ FirstMatch threeSession 0 deviceB ∧
    VerifyAnswered threeSession (96 * (0 + 1)) (0, 0) ∧ VerifyAnswered threeSession (verifyEnd (96 * (0 + 1)) (0, 0)) (0, 0) ∧
    deviceB.ext ≠ 0x00 ∧ VerifyAnswered threeSession (verifyEnd (verifyEnd (96 * (0 + 1)) (0, 0)) (0, 0)) (0, 0) :=
  ⟨threeSession_inv, rfl, rfl, ⟨fun j h => absurd h (by omega), rfl, by decide, by decide +kernel⟩,
    three_answered _ (by decide +kernel) (by decide +kernel), three_answered _ (by decide +kernel) (by decide +kernel), by decide,
    three_answered _ (by decide +kernel) (by decide +kernel)⟩

theorem witness_UnknownDeviceSessionFails :
    EngineInv (rested (signature 0xFF 0xFF 0xFF)) ∧ (rested (signature 0xFF 0xFF 0xFF)).seq = .due .idle ∧
    (rested (signature 0xFF 0xFF 0xFF)).startPresented = true ∧ NoMatch (rested (signature 0xFF 0xFF 0xFF)) 1 := by
  refine ⟨rested_inv _, rfl, rfl, fun j h => ?_, .inl rfl⟩
  obtain rfl : j = 0 := by omega
  exact ⟨Config.attiny25, rfl, by decide, by decide +kernel⟩

end Sys2Proof.Tests
end

section
/-! PROOF. The scope family (spec/00_scope.md R11): what runs through every operation, so that a fact about its parts is a fact about
the whole, and the line bits as the replay of the trace. -/

namespace Sys2Proof.Proofs

open Sys2Proof.Machine Sys2Proof.Safety Sys2Proof.Claims Sys2Proof.Laws

/-! ### From the parts of an operation to the operation

Every meaning is built from statements, samples of a POLL, surrenders, moves of the sequencer and the acceptance of Start. A relation
between the state before and the state after that holds across each of these, and composes, holds across every operation. -/

/-- The relation composes and holds across every part an operation is built from. -/
structure ClosedUnderParts (R : State → State → Prop) : Prop where
  rel_refl : ∀ s, R s s
  rel_trans : ∀ {s t u}, R s t → R t u → R s u
  rel_act : ∀ (c : Stmt) s, R s (c.act s)
  rel_pollSample : ∀ s, R s (pollSample s)
  rel_abandonSession : ∀ s, R s (abandonSession s)
  rel_moveTo : ∀ q s, R s (moveTo q s)
  rel_execStart : ∀ {s t}, execStart s = .next t → R s t

namespace ClosedUnderParts

variable {R : State → State → Prop}

theorem rel_of_readingSdo {f : State → State} (hf : ∀ s, R s (f s)) {s t : State} (h : readingSdo f s = .next t) : R s t := by
  obtain ⟨-, rfl⟩ := readingSdo_next h
  exact hf s

theorem rel_of_readingIfScanned {f : State → State} (hf : ∀ s, R s (f s)) {s t : State} (h : readingIfScanned f s = .next t) :
    R s t := by
  unfold readingIfScanned at h
  split at h
  · exact rel_of_readingSdo hf h
  · cases h
    exact hf s

variable (hR : ClosedUnderParts R)
include hR

theorem rel_goTo (p : SessionStep) (s : State) : R s (goTo p s) := hR.rel_moveTo _ s

theorem rel_perform (cs : List Stmt) : ∀ s, R s (perform cs s) := by
  induction cs with
  | nil => exact hR.rel_refl
  | cons c cs ih => exact fun s => hR.rel_trans (hR.rel_act c s) (ih (c.act s))

theorem rel_xfer (d i : Byte) (s : State) : R s (xfer d i s) := hR.rel_perform _ s

/-! POLL: whatever follows an answered POLL is related, so the POLL with what follows it is. -/

section
variable {ready : State → State} (hready : ∀ s, R s (ready s))
include hready

theorem rel_pollOnce (site : PollSite) (back : SessionStep) (s : State) : R s (pollOnce site back ready s) := by
  unfold pollOnce
  split
  · exact hR.rel_trans (hR.rel_pollSample s) (hready _)
  split
  · exact hR.rel_trans (hR.rel_pollSample s) (hR.rel_abandonSession _)
  · exact hR.rel_trans (hR.rel_pollSample s) (hR.rel_moveTo _ _)

theorem rel_pollFrom (site : PollSite) (back : SessionStep) (s : State) : R s (pollFrom site back ready s) :=
  hR.rel_trans (hR.rel_perform _ s) (hR.rel_pollOnce hready site back _)

/-! The fuse write, with what follows it -/

theorem rel_finishWrite (o : WriteOwner) (k : Kind) (back : SessionStep) (s : State) : R s (finishWrite o k back ready s) :=
  hR.rel_trans (hR.rel_perform _ s) (hR.rel_pollFrom hready _ back _)

theorem rel_writeFuse (o : WriteOwner) (k : Kind) (v : Byte) (back : SessionStep) (s : State) :
    R s (writeFuse o k v back ready s) :=
  hR.rel_trans (hR.rel_perform _ s) (hR.rel_pollFrom (hR.rel_finishWrite hready o k back) _ back _)

theorem rel_verifyInSession (k : Kind) (s : State) : R s (verifyInSession k ready s) :=
  hR.rel_trans (hR.rel_act (.beginVerify k _) s) (hR.rel_writeFuse hready _ k _ _ _)

end

theorem rel_pollStep (s : State) : R s (pollStep s) := by
  unfold pollStep
  split
  · exact hR.rel_pollOnce (hR.rel_moveTo _) _ _ s
  · exact hR.rel_pollFrom (hR.rel_goTo _) _ _ s
  · exact hR.rel_pollFrom (hR.rel_goTo _) _ _ s
  · exact hR.rel_pollFrom (hR.rel_goTo _) _ _ s

theorem rel_writeAlone (k : Kind) (v : Byte) (s : State) : R s (writeAlone k v s) :=
  hR.rel_writeFuse (hR.rel_goTo _) _ k v _ s

theorem rel_endVerify (k : Kind) (s : State) : R s (endVerify k s) := hR.rel_perform _ s

theorem rel_endVerifyAlone (k : Kind) (back : SessionStep) (s : State) : R s (endVerifyAlone k back s) :=
  hR.rel_trans (hR.rel_endVerify k s) (hR.rel_goTo back _)

theorem rel_verifyAlone (k : Kind) (v : Byte) (s : State) : R s (verifyAlone k v s) :=
  hR.rel_trans (hR.rel_act (.beginVerify k v) s) (hR.rel_writeFuse (hR.rel_endVerifyAlone k _) _ k v _ _)

theorem rel_execVerifyE (v : Byte) {s t : State} (h : execVerifyE v s = .next t) : R s t := by
  unfold execVerifyE at h
  split at h
  · cases h
    exact hR.rel_act .skipExt s
  · exact rel_of_readingSdo (hR.rel_verifyAlone .ext v) h

/-! The matcher: the scan by induction on the entries still to come -/

theorem rel_scanTable (n : Nat) : ∀ s, R s (scanTable n s) := by
  induction n with
  | zero => exact hR.rel_refl
  | succ n ih =>
    intro s
    have hread : R s (readSignature s) := hR.rel_perform _ s
    have hcompare : R s (compareSignature (readSignature s)) := hR.rel_trans hread (hR.rel_act .compareEntry _)
    unfold scanTable
    split
    · exact hR.rel_act .testEntry s
    split
    · exact hcompare
    · exact hR.rel_trans hcompare (ih _)

theorem rel_matchDevice (s : State) : R s (matchDevice s) :=
  hR.rel_trans (hR.rel_perform matchEntry s) (hR.rel_scanTable _ _)

/-! S7's work, last part first as in the model -/

theorem rel_endOperate (s : State) : R s (endOperate s) := hR.rel_trans (hR.rel_act .settle s) (hR.rel_goTo .s8 _)

theorem rel_operateAfterExt (s : State) : R s (operateAfterExt s) :=
  hR.rel_trans (hR.rel_endVerify .ext s) (hR.rel_endOperate _)

theorem rel_operateExt (s : State) : R s (operateExt s) := by
  unfold operateExt
  split
  · exact hR.rel_verifyInSession hR.rel_operateAfterExt .ext s
  · exact hR.rel_trans (hR.rel_act .skipExt s) (hR.rel_endOperate _)

theorem rel_operateAfterHigh (s : State) : R s (operateAfterHigh s) :=
  hR.rel_trans (hR.rel_endVerify .high s) (hR.rel_operateExt _)

theorem rel_operateAfterLow (s : State) : R s (operateAfterLow s) :=
  hR.rel_trans (hR.rel_endVerify .low s) (hR.rel_verifyInSession hR.rel_operateAfterHigh .high _)

theorem rel_operateFound (s : State) : R s (operateFound s) := by
  unfold operateFound
  split
  · exact hR.rel_verifyInSession hR.rel_operateAfterLow .low s
  · exact hR.rel_trans (hR.rel_act .clearOks s) (hR.rel_endOperate _)

theorem rel_operate (s : State) : R s (operate s) :=
  hR.rel_trans (hR.rel_act (.state .operating) s) (hR.rel_trans (hR.rel_matchDevice _) (hR.rel_operateFound _))

theorem rel_runSession {p next : SessionStep} {s t : State} (h : runSession p next s = .next t) : R s t := by
  cases h
  exact hR.rel_trans (hR.rel_perform _ s) (hR.rel_goTo next _)

/-- Across every operation that has a next state. -/
theorem rel_exec {i : Instr} {s t : State} (h : exec i s = .next t) : R s t := by
  cases i with
  | ldcmdSig | sigsetup | sigread | ldcmdWf | lddata | wfLA | wfLB | wfHA | wfHB | wfEA | wfEB | ldcmdNop | ldcmdRf
  | rfLA | rfLB | rfHA | rfHB | rfEA | rfEB | xfer => exact rel_of_readingSdo (hR.rel_xfer _ _) h
  | ldaddr n =>
    simp only [exec, execLdaddr] at h
    split at h
    · exact rel_of_readingSdo (hR.rel_xfer _ _) h
    · cases h
  | pulse =>
    simp only [exec, execPulse] at h
    split at h
    · cases h
      exact hR.rel_perform _ s
    · cases h
  | poll => exact rel_of_readingSdo hR.rel_pollStep h
  | rdsig n =>
    simp only [exec, execRdsig] at h
    split at h
    · exact rel_of_readingSdo (fun s => hR.rel_perform (signatureByteCode s.params n) s) h
    · cases h
  | matchDevice => exact rel_of_readingIfScanned hR.rel_matchDevice h
  | wrfuseL | wrfuseH | wrfuseE => exact rel_of_readingSdo (hR.rel_writeAlone _ _) h
  | rdfuseL => exact rel_of_readingSdo (fun s => hR.rel_perform (readCode s.params .low) s) h
  | rdfuseH => exact rel_of_readingSdo (fun s => hR.rel_perform (readCode s.params .high) s) h
  | rdfuseE => exact rel_of_readingSdo (fun s => hR.rel_perform (readCode s.params .ext) s) h
  | verifyL | verifyH => exact rel_of_readingSdo (hR.rel_verifyAlone _ _) h
  | verifyE v => exact hR.rel_execVerifyE v h
  | start => exact hR.rel_execStart h
  | s7 => exact rel_of_readingIfScanned hR.rel_operate h
  | s1 | s2 | s3 | s4 | s5 | s6 | s8 | s9 => exact hR.rel_runSession h

end ClosedUnderParts

/-! ### The lines are the replay of the trace -/

@[simp] theorem replay_nil (ls : Lines) : replay [] ls = ls := rfl

theorem replay_append (es fs : List Event) (ls : Lines) : replay (es ++ fs) ls = replay fs (replay es ls) := List.foldl_append

/-- Some events were added to the trace, and the lines are what replaying them gives (R11, R21). -/
def LinesFollowTrace (s t : State) : Prop := ∃ es, Added s t es ∧ t.lines = replay es s.lines

namespace LinesFollowTrace

theorem of_noEvent {s t : State} (hl : t.lines = s.lines) (ht : t.trace = s.trace) : LinesFollowTrace s t := ⟨[], ht, hl⟩

theorem of_oneEvent (e : Event) {s t : State} (hl : t.lines = e.apply s.lines) (ht : t.trace = e :: s.trace) :
    LinesFollowTrace s t := ⟨[e], ht, hl⟩

theorem trans {s t u : State} (h : LinesFollowTrace s t) (h' : LinesFollowTrace t u) : LinesFollowTrace s u := by
  obtain ⟨es, hadd, hlines⟩ := h
  obtain ⟨fs, hadd', hlines'⟩ := h'
  refine ⟨es ++ fs, ?_, ?_⟩
  · calc u.trace = fs.reverse ++ (es.reverse ++ s.trace) := by rw [hadd', hadd]
      _ = (es ++ fs).reverse ++ s.trace := by rw [List.reverse_append, List.append_assoc]
  · rw [hlines', hlines, replay_append]

/-- The sentinel test writes at most the cause. -/
theorem of_testSentinel (s : State) : LinesFollowTrace s (testSentinel s) := by
  unfold testSentinel
  split
  · exact of_noEvent (raise_lines _ s) (raise_trace _ s)
  · exact of_noEvent rfl rfl

/-- The compare of MATCH writes `ENT`, or `DESC` and `FOUND`. -/
theorem of_compareSignature (s : State) : LinesFollowTrace s (compareSignature s) := by
  unfold compareSignature
  split
  · exact of_noEvent rfl rfl
  split
  · exact of_noEvent (matched_lines _ s) (matched_trace _ s)
  · exact of_noEvent rfl rfl

/-- A statement is one line event, or writes no line. -/
theorem of_act (c : Stmt) (s : State) : LinesFollowTrace s (c.act s) := by
  cases c with
  | level | direction | group | wait | sample | drive | publish => exact of_oneEvent _ rfl rfl
  | testEntry => exact of_testSentinel s
  | compareEntry => exact of_compareSignature s
  | judge k => exact of_noEvent (judge_lines k s) (judge_trace k s)
  | load | slot | shift | clearCount | clearFound | firstEntry | keepSignature | beginVerify | keepReadBack | test | skipExt
  | clearOks | settle | state => exact of_noEvent rfl rfl

/-- A sample of a POLL is one read of SDO, counted or not. -/
theorem of_pollSample (s : State) : LinesFollowTrace s (pollSample s) := by
  rw [pollSample_eq]
  exact of_oneEvent (.readLevel .sdo (s.sample 0)) rfl rfl

/-- A Start is one event where it is accepted, and nothing elsewhere. -/
theorem of_execStart {s t : State} (h : execStart s = .next t) : LinesFollowTrace s t := by
  unfold execStart at h
  split at h <;> cases h
  case h_1 => exact of_oneEvent .start rfl rfl
  all_goals exact of_noEvent rfl rfl

theorem closedUnderParts : ClosedUnderParts LinesFollowTrace where
  rel_refl _ := of_noEvent rfl rfl
  rel_trans := trans
  rel_act := of_act
  rel_pollSample := of_pollSample
  rel_abandonSession s := of_noEvent (raise_lines _ s) (raise_trace _ s)
  rel_moveTo _ _ := of_noEvent rfl rfl
  rel_execStart := of_execStart

end LinesFollowTrace

/-- Settles O54: every part of an operation is one line event or writes no line, and the two compose. -/
theorem linesChangeOnlyByEvents : Obligations.LinesChangeOnlyByEvents :=
  fun _ _ _ h => LinesFollowTrace.closedUnderParts.rel_exec h

end Sys2Proof.Proofs
end

section
/-! PROOF. What one step can do (spec/10_state.md R26, spec/92_eei_decisions.md D1), said once; the positions that run a whole operation;
what no operation changes (R37); engine reset (R39). -/

namespace Sys2Proof.Proofs

open Sys2Proof.Machine Sys2Proof.Safety Sys2Proof.Claims Sys2Proof.Laws

/-! ### What one step can do -/

/-- The statement a position stands before: its stage and its number. -/
def statementAt : Seq → Option (Stage × Nat)
  | .due .idle => none
  | .due p => some (.own p, 0)
  | .within g n => some (g, n)
  | .polling _ _ => none
  | .placed _ _ => none

theorem statementAt_due {p : SessionStep} (hp : p ≠ .idle) : statementAt (.due p) = some (.own p, 0) := by
  cases p with
  | idle => exact absurd rfl hp
  | _ => rfl

/-- Where the sequencer goes on after statement `n` of a stage. -/
def nextPosition (g : Stage) (n : Nat) (s : State) : Seq :=
  if n + 1 < (stageCode s.params s.desc g).length then .within g (n + 1) else stageExit g s

/-- What one step can do: a look for Start, its acceptance, one statement, one sample of a POLL, or the placed frame. -/
inductive StepCase (s t : State) : Prop
  | look (hq : s.seq = .due .idle) (ht : t = lookForStart s)
  | start (hq : s.seq = .due .idle)
      (ht : t = goTo .s1 { emit .start (lookForStart s) with done := false, fail := .none })
  | statement (g : Stage) (n : Nat) (c : Stmt) (hq : statementAt s.seq = some (g, n))
      (hc : (stageCode s.params s.desc g)[n]? = some c) (ht : t = moveTo (nextPosition g n s) (c.act s))
  | pastEnd (g : Stage) (n : Nat) (hq : statementAt s.seq = some (g, n))
      (hn : (stageCode s.params s.desc g).length ≤ n) (ht : t = moveTo (stageExit g s) s)
  | sample (site : PollSite) (back : SessionStep) (q : Seq) (hq : s.seq = .polling site back)
      (hto : q = Machine.afterPoll site back ∨ q = .polling site back) (ht : t = moveTo q (pollSample s))
  | surrender (site : PollSite) (back : SessionStep) (hq : s.seq = .polling site back) (ht : t = abandonSession (pollSample s))
  | frame (cmd : LoadedCommand) (cw : CommandWord) (d i : Byte) (hq : s.seq = .placed cmd cw) (ht : t = afterFrame d i (goTo .s8 s))

theorem runIdle_cases {s t : State} (hq : s.seq = .due .idle) (h : runIdle s = .next t) : StepCase s t := by
  unfold runIdle at h
  split at h
  · simp only [exec, execStart] at h
    split at h <;> cases h
    case h_1 => exact .start hq rfl
    all_goals exact .look hq rfl
  · cases h
    exact .look hq rfl

theorem runAt_cases {g : Stage} {n : Nat} {s t : State} (hq : statementAt s.seq = some (g, n)) (h : runAt g n s = .next t) :
    StepCase s t := by
  cases hc : (stageCode s.params s.desc g)[n]? with
  | none =>
    simp only [runAt, hc] at h
    cases h
    exact .pastEnd g n hq (List.getElem?_eq_none_iff.mp hc) rfl
  | some c =>
    simp only [runAt, hc] at h
    exact .statement g n c hq hc (run_next c _ h).2

theorem pollOnce_cases {site : PollSite} {back : SessionStep} {s : State} (hq : s.seq = .polling site back) :
    StepCase s (pollOnce site back (moveTo (Machine.afterPoll site back)) s) := by
  unfold pollOnce
  split
  · exact .sample site back _ hq (.inl rfl) rfl
  split
  · exact .surrender site back hq rfl
  · exact .sample site back _ hq (.inr rfl) rfl

/-- An operation that is one frame sends it, or is refused (R95, R99 (a)). -/
theorem exec_frame_next {i : Instr} {d ins : Byte} {s t : State} (hi : frameBytes i = some (d, ins)) (h : exec i s = .next t) :
    t = afterFrame d ins s := by
  have sent (d ins : Byte) (h : readingSdo (xfer d ins) s = .next t) : t = afterFrame d ins s :=
    (readingSdo_next h).2.trans (xfer_after d ins s)
  cases i with
  | ldaddr n =>
    cases hi
    simp only [exec, execLdaddr] at h
    split at h
    · exact sent _ _ h
    · cases h
  | ldcmdSig | sigsetup | sigread | ldcmdWf | lddata | wfLA | wfLB | wfHA | wfHB | wfEA | wfEB | ldcmdNop | ldcmdRf
  | rfLA | rfLB | rfHA | rfHB | rfEA | rfEB | xfer =>
    cases hi
    exact sent _ _ h
  | _ => cases hi

theorem runPlaced_cases {cmd : LoadedCommand} {cw : CommandWord} {s t : State} (hq : s.seq = .placed cmd cw)
    (h : runPlaced cmd cw s = .next t) : StepCase s t := by
  unfold runPlaced at h
  split at h
  · rename_i i hi
    obtain ⟨⟨d, ins⟩, hb, -⟩ := Option.map_eq_some_iff.mp (decode_ok cmd cw i hi).2
    exact .frame cmd cw d ins hq (exec_frame_next hb h)
  · cases h

theorem step_cases {s t : State} (h : step s = .next t) : StepCase s t := by
  unfold step at h
  cases hq : s.seq with
  | due p =>
    rw [hq] at h
    by_cases hp : p = .idle
    · subst hp
      exact runIdle_cases hq h
    · have hs : statementAt s.seq = some (.own p, 0) := hq ▸ statementAt_due hp
      refine runAt_cases hs (.trans ?_ h)
      cases p with
      | idle => exact absurd rfl hp
      | _ => rfl
  | within g n =>
    rw [hq] at h
    exact runAt_cases (g := g) (n := n) (by rw [hq]; rfl) h
  | polling site back =>
    rw [hq] at h
    have hp := (readingSdo_next (f := pollStep) h).2
    rw [pollStep, hq] at hp
    exact hp ▸ pollOnce_cases hq
  | placed cmd cw =>
    rw [hq] at h
    exact runPlaced_cases hq h

/-! ### Positions that run a whole operation -/

/-- Settles O47: each clause is `runPosition` at one position. -/
theorem positionsNameOperations : Obligations.PositionsNameOperations := by
  have idle (s : State) (hq : s.seq = .due .idle) :
      step s = if s.startPresented then exec .start (lookForStart s) else .next (lookForStart s) := by
    rw [step, hq]
    rfl
  refine ⟨fun s hq hs => ?_, fun s hq hs => ?_, step_polling, fun s cmd cw i hq hi => ?_⟩
  · rw [idle s hq, if_pos hs]
    rfl
  · rw [idle s hq, if_neg (by simp [hs])]
    rfl
  · simp only [step, hq, runPosition, runPlaced, hi]
    rfl

/-! ### What no operation changes, and reset -/

/-- Settles O56: no part of an operation writes the parameters, so no operation does. -/
theorem parametersNeverChange : Obligations.ParametersNeverChange := by
  have parts : ClosedUnderParts fun s t => t.params = s.params :=
    { rel_refl := fun _ => rfl
      rel_trans := fun h h' => h'.trans h
      rel_act := act_params
      rel_pollSample := fun s => by rw [pollSample_eq]; rfl
      rel_abandonSession := raise_params _
      rel_moveTo := fun _ _ => rfl
      rel_execStart := fun {s t} h => by
        unfold execStart at h
        split at h <;> cases h <;> rfl }
  exact fun _ _ _ h => parts.rel_exec h

/-- Settles O50: reset writes these four fields so. -/
theorem resetState : Obligations.ResetState := ⟨rfl, rfl, rfl, rfl⟩

/-- Settles O51: in Idle before the first session the invariant asks for the state, for no lines and for no cause. -/
theorem invariantHoldsAtReset : Obligations.InvariantHoldsAtReset where
  inCode := trivial
  state := rfl
  lines := fun _ h => nomatch h
  afterSession := fun _ h => nomatch h
  running := fun h => absurd rfl h
  noEarlyFailure := fun h => nomatch h
  work := trivial
  outcome := fun h => nomatch h

end Sys2Proof.Proofs
end

section
/-! PROOF. The statements of S7's work: which registers they leave alone and what they do to the clock and the two data lines
(spec/10_state.md R38, spec/40_bit_and_frame.md R135). -/

namespace Sys2Proof.Proofs

open Sys2Proof.Machine Sys2Proof.Safety Sys2Proof.Claims Sys2Proof.Laws

/-! ### Statements that branch, in closed form -/

theorem testSentinel_eq (s : State) :
    testSentinel s = { s with fail := if atSentinel s then failAfter .unknownDevice s else s.fail } := by
  unfold testSentinel
  split
  · exact raise_eq _ s
  · rfl

/-- A match, or on to the next entry. -/
theorem compareSignature_cases (s : State) :
    (∃ e, tableRead s.params s.ent = some e ∧ entryMatches s = true ∧ s.sigb = e.sig ∧ compareSignature s = matched e s) ∨
    (entryMatches s = false ∧ compareSignature s = { s with ent := s.ent + 1 }) := by
  unfold compareSignature entryMatches
  cases tableRead s.params s.ent with
  | none => exact .inr ⟨rfl, rfl⟩
  | some e =>
    by_cases h : signatureMatches s e = true
    · exact .inl ⟨e, rfl, h, by simpa [signatureMatches] using h, if_pos h⟩
    · exact .inr ⟨by simpa using h, if_neg h⟩

@[simp] theorem testSentinel_lines (s : State) : (testSentinel s).lines = s.lines := by rw [testSentinel_eq]
@[simp] theorem testSentinel_trace (s : State) : (testSentinel s).trace = s.trace := by rw [testSentinel_eq]

@[simp] theorem compareSignature_lines (s : State) : (compareSignature s).lines = s.lines := by
  obtain ⟨e, -, -, -, he⟩ | ⟨-, he⟩ := compareSignature_cases s
  · rw [he, matched_lines]
  · rw [he]
@[simp] theorem compareSignature_trace (s : State) : (compareSignature s).trace = s.trace := by
  obtain ⟨e, -, -, -, he⟩ | ⟨-, he⟩ := compareSignature_cases s
  · rw [he, matched_trace]
  · rw [he]

@[simp] theorem pollSample_lines (s : State) : (pollSample s).lines = s.lines := by
  rw [pollSample_eq]
  rfl

@[simp] theorem abandonSession_lines (s : State) : (abandonSession s).lines = s.lines := raise_lines _ s

theorem judge_of_equal {s : State} (h : s.rval = s.wval) (k : Kind) : judge k s = setOk k true s := if_pos h

theorem judge_of_different {s : State} (h : s.rval ≠ s.wval) (k : Kind) :
    judge k s = raise .verifyMismatch (setOk k false s) := if_neg h

/-! ### The statements of frames and POLLs -/

/-- A statement of S7's work: of the lines it writes SCI alone, or SDI and SII together, and it writes neither `ST` nor `DONE`. -/
def isWorkStmt : Stmt → Bool
  | .level l _ => l == .sci
  | .group dirs lvls => Stmt.group dirs lvls == latch false false
  | .direction _ _ | .state _ | .publish => false
  | _ => true

/-- A statement of a frame or a POLL, or one that writes nothing but `RVAL`. -/
def isFrameStmt : Stmt → Bool
  | .load _ _ | .slot _ | .wait _ | .sample | .drive | .shift | .clearCount | .keepReadBack | .test => true
  | .level l _ => l == .sci
  | .group dirs lvls => Stmt.group dirs lvls == latch false false
  | _ => false

theorem isWorkStmt_of_isFrameStmt {c : Stmt} (h : isFrameStmt c = true) : isWorkStmt c = true := by
  cases c with
  | level | group => exact h
  | direction | state | publish => cases h
  | _ => rfl

theorem framesCode_isFrameStmt (p : Params) (l : List (Byte × Byte)) : (framesCode p l).all isFrameStmt = true := by
  induction l with
  | nil => rfl
  | cons x l ih =>
    rw [framesCode, List.flatMap_cons, List.all_append]
    exact Bool.and_eq_true _ _ ▸ ⟨rfl, ih⟩

theorem pollEntry_isFrameStmt (p : Params) : (pollEntry p).all isFrameStmt = true := by
  unfold pollEntry
  cases p.pollLimit <;> rfl

/-- The registers that the invariant speaks of, but `SEQ` and the lines, are the same. -/
structure SameRegisters (s t : State) : Prop where
  params : t.params = s.params
  st : t.st = s.st
  ent : t.ent = s.ent
  sigb : t.sigb = s.sigb
  found : t.found = s.found
  desc : t.desc = s.desc
  kind : t.kind = s.kind
  wval : t.wval = s.wval
  okl : t.okl = s.okl
  okh : t.okh = s.okh
  oke : t.oke = s.oke
  outcome : t.outcome = s.outcome
  done : t.done = s.done
  fail : t.fail = s.fail

namespace SameRegisters

theorem of_frameStmt {c : Stmt} (h : isFrameStmt c = true) (s : State) : SameRegisters s (c.act s) := by
  cases c with
  | load | slot | level | group | wait | sample | drive | shift | clearCount | keepReadBack | test => constructor <;> rfl
  | _ => cases h

theorem of_pollSample (s : State) : SameRegisters s (pollSample s) := by
  rw [pollSample_eq]
  constructor <;> rfl

end SameRegisters

/-! ### The code of S7's work -/

/-- A stage holds a session step's own statements, or is one of S7's work. -/
theorem own_or_work (g : Stage) : (∃ p, g = .own p) ∨ ∀ q, g ≠ .own q := by
  cases g with
  | own p => exact .inl ⟨p, rfl⟩
  | _ => exact .inr nofun

theorem stageCode_isWorkStmt (p : Params) (e : Descriptor) (g : Stage) (hg : ∀ q, g ≠ .own q) :
    (stageCode p e g).all isWorkStmt = true := by
  have frames {cs : List Stmt} (h : cs.all isFrameStmt = true) : cs.all isWorkStmt = true := by
    rw [List.all_eq_true] at h ⊢
    exact fun c hc => isWorkStmt_of_isFrameStmt (h c hc)
  have hf (l : List (Byte × Byte)) := frames (framesCode_isFrameStmt p l)
  have hp := frames (pollEntry_isFrameStmt p)
  cases g with
  | own q => exact absurd rfl (hg q)
  | readEntry => simp [stageCode, signatureCode, signatureByteCode, hf, isWorkStmt]
  | strobe k => simp [stageCode, strobeCode, hf, hp, isWorkStmt]
  | finish => simp [stageCode, finishCode, hf, hp]
  | readBack => simp [stageCode, readBackCode, readCode, hf, isWorkStmt]
  | testEntry | compareEntry | testFound | testExt | skipExt | noMatch | settle => rfl

/-- The statements that read a signature are those of frames, and three that keep a byte. -/
theorem signatureCode_cases {p : Params} {c : Stmt} (hc : c ∈ signatureCode p) :
    isFrameStmt c = true ∨ ∃ k, c = .keepSignature k := by
  have hframe {n : Byte} (h : c ∈ signatureByteCode p n) : isFrameStmt c = true :=
    List.all_eq_true.mp (framesCode_isFrameStmt p [(0x08, 0x4C), (zext8 n, 0x0C), (0x00, 0x68), (0x00, 0x6C)]) c h
  simp only [signatureCode, List.mem_append, List.mem_singleton] at hc
  rcases hc with ((((h | h) | h) | h) | h) | h
  exacts [.inl (hframe h), .inr ⟨0, h⟩, .inl (hframe h), .inr ⟨1, h⟩, .inl (hframe h), .inr ⟨2, h⟩]

/-- No statement of S7's work writes `ST` or `DONE`. -/
theorem act_st_done {c : Stmt} (h : isWorkStmt c = true) (s : State) : (c.act s).st = s.st ∧ (c.act s).done = s.done := by
  cases c with
  | testEntry =>
    show (testSentinel s).st = _ ∧ (testSentinel s).done = _
    rw [testSentinel_eq]
    exact ⟨rfl, rfl⟩
  | compareEntry =>
    show (compareSignature s).st = _ ∧ (compareSignature s).done = _
    obtain ⟨e, -, -, -, he⟩ | ⟨-, he⟩ := compareSignature_cases s <;> rw [he] <;> exact ⟨rfl, rfl⟩
  | judge k => exact ⟨judge_st k s, judge_done k s⟩
  | direction | state | publish => cases h
  | _ => exact ⟨rfl, rfl⟩

/-! ### The bus -/

/-- The lines inside S7 when the statements run so far leave the bus like this (R38, R135). -/
def OnBus (ls : Lines) (b : Bus) : Prop :=
  ∃ sdi sii, ls = workLines b.clock sdi sii ∧ (b.quiet = true → sdi = false ∧ sii = false)

theorem onBus_rest_iff (ls : Lines) : OnBus ls Bus.rest ↔ ls = sessionLines .input false true := by
  constructor
  · rintro ⟨sdi, sii, hls, hquiet⟩
    obtain ⟨rfl, rfl⟩ := hquiet rfl
    exact hls
  · exact fun h => ⟨false, false, h, fun _ => ⟨rfl, rfl⟩⟩

theorem OnBus.act {c : Stmt} {s : State} {b : Bus} (h : OnBus s.lines b) (hc : isWorkStmt c = true) :
    OnBus (c.act s).lines (b.after c) := by
  obtain ⟨sdi, sii, hls, hquiet⟩ := h
  have unchanged (hb : b.after c = b) (hl : (c.act s).lines = s.lines) : OnBus (c.act s).lines (b.after c) := by
    rw [hb, hl]
    exact ⟨sdi, sii, hls, hquiet⟩
  cases c with
  | level l v =>
    obtain rfl : l = .sci := by simpa [isWorkStmt] using hc
    exact ⟨sdi, sii, congrArg (Event.apply (.setLevel .sci v)) hls, hquiet⟩
  | group dirs lvls =>
    obtain ⟨rfl, rfl⟩ : dirs = [] ∧ lvls = [(.sdi, false), (.sii, false)] := by simpa [isWorkStmt, latch] using hc
    exact ⟨false, false, congrArg (Event.apply (.setGroup [] [(.sdi, false), (.sii, false)])) hls, fun _ => ⟨rfl, rfl⟩⟩
  | drive =>
    exact ⟨topBit s.dsr, topBit s.isr, congrArg (Event.apply (.setGroup [] [(.sdi, topBit s.dsr), (.sii, topBit s.isr)])) hls,
      fun h => nomatch h⟩
  | testEntry => exact unchanged rfl (testSentinel_lines s)
  | compareEntry => exact unchanged rfl (compareSignature_lines s)
  | judge k => exact unchanged rfl (judge_lines k s)
  | direction | state | publish => cases hc
  | _ => exact unchanged rfl rfl

/-- A frame leaves the bus at rest: its stop slots lower SDI and SII, and its last pulse lowers SCI (R131). -/
theorem frameCode_bus (p : Params) (d i : Byte) : (frameCode p d i).foldl Bus.after Bus.rest = Bus.rest := rfl

theorem framesCode_bus (p : Params) (l : List (Byte × Byte)) : (framesCode p l).foldl Bus.after Bus.rest = Bus.rest := by
  induction l with
  | nil => rfl
  | cons x l ih =>
    rw [framesCode, List.flatMap_cons, List.foldl_append, frameCode_bus]
    exact ih

theorem pollEntry_bus (p : Params) : (pollEntry p).foldl Bus.after Bus.rest = Bus.rest := by
  unfold pollEntry
  cases p.pollLimit <;> rfl

/-- Every stage of S7's work leaves the bus at rest. -/
theorem stageCode_bus (p : Params) (e : Descriptor) (g : Stage) (hg : ∀ q, g ≠ .own q) :
    (stageCode p e g).foldl Bus.after Bus.rest = Bus.rest := by
  have keep (n : Fin 3) : Bus.rest.after (.keepSignature n) = Bus.rest := rfl
  have begin' (k : Kind) (v : Byte) : Bus.rest.after (.beginVerify k v) = Bus.rest := rfl
  have back : Bus.rest.after .keepReadBack = Bus.rest := rfl
  have judge (k : Kind) : Bus.rest.after (.judge k) = Bus.rest := rfl
  cases g with
  | own q => exact absurd rfl (hg q)
  | readEntry => simp [stageCode, signatureCode, signatureByteCode, List.foldl_append, framesCode_bus, keep]
  | strobe k => simp [stageCode, strobeCode, List.foldl_append, framesCode_bus, pollEntry_bus, begin']
  | finish => simp [stageCode, finishCode, List.foldl_append, framesCode_bus, pollEntry_bus]
  | readBack => simp [stageCode, readBackCode, readCode, List.foldl_append, framesCode_bus, back, judge]
  | testEntry | compareEntry | testFound | testExt | skipExt | noMatch | settle => rfl

@[simp] theorem busAt_zero (s : State) (g : Stage) : busAt s g 0 = Bus.rest := rfl

theorem busAt_succ {s : State} {g : Stage} {n : Nat} {c : Stmt} (hc : (stageCode s.params s.desc g)[n]? = some c) :
    busAt s g (n + 1) = (busAt s g n).after c := by
  rw [busAt, busAt, List.take_add_one, hc, List.foldl_append]
  rfl

theorem busAt_end {s : State} {g : Stage} {n : Nat} (hg : ∀ q, g ≠ .own q) (hn : (stageCode s.params s.desc g).length ≤ n) :
    busAt s g n = Bus.rest := by
  rw [busAt, List.take_of_length_le hn]
  exact stageCode_bus _ _ g hg

end Sys2Proof.Proofs
end

section
/-! PROOF. The engine's invariant in S7's work (spec/41_signature.md R151, spec/42_fuse.md R178, R183, spec/43_session.md R197, R198): what
the invariant comes to there, and what holds of the registers from one statement to the next. -/

namespace Sys2Proof.Proofs

open Sys2Proof.Machine Sys2Proof.Safety Sys2Proof.Claims Sys2Proof.Laws

/-! ### Positions in S7's work -/

/-- The position is in the work of S7, in a stage or in a POLL. -/
def inWork : Seq → Bool
  | .within (.own _) _ => false
  | .within _ _ => true
  | .polling _ _ => true
  | _ => false

theorem inWork_within {g : Stage} (hg : ∀ q, g ≠ .own q) (n : Nat) : inWork (.within g n) = true := by
  cases g with
  | own q => exact absurd rfl (hg q)
  | _ => rfl

/-- At the beginning of a stage of S7's work, or in a POLL. -/
def beginsWork : Seq → Bool
  | .within (.own _) _ => false
  | .within _ n => n == 0
  | .polling _ _ => true
  | _ => false

/-- Throughout S7's work `ST` is Operating (R201). -/
theorem stateAt_of_inWork {q : Seq} (h : inWork q = true) : stateAt q = .operating := by
  cases q with
  | due | placed => cases h
  | polling => rfl
  | within g n =>
    cases g with
    | own => cases h
    | _ => rfl

theorem beforeOperate_of_inWork {q : Seq} (h : inWork q = true) : beforeOperate q = false := by
  cases q with
  | due | placed => cases h
  | polling => rfl
  | within g n =>
    cases g with
    | own => cases h
    | _ => rfl

theorem outcomeStands_of_inWork {s : State} (h : inWork s.seq = true) : outcomeStands s = false := by
  unfold outcomeStands
  cases hq : s.seq with
  | due | placed =>
    rw [hq] at h
    cases h
  | polling => rfl
  | within g n =>
    rw [hq] at h
    cases g with
    | own => cases h
    | _ => rfl

/-- In S7's work the invariant comes to five of its parts. -/
theorem engineInv_of_inWork {s : State} (hq : inWork s.seq = true) (hcode : InCode s) (hst : s.st = .operating) (hlines : LinesOk s)
    (hdone : s.done = false) (hwork : WorkFacts s) : EngineInv s where
  inCode := hcode
  state := hst.trans (stateAt_of_inWork hq).symm
  lines := hlines
  afterSession h := by
    rw [h] at hq
    cases hq
  running _ := hdone
  noEarlyFailure h := by
    rw [beforeOperate_of_inWork hq] at h
    cases h
  work := hwork
  outcome h := by
    rw [outcomeStands_of_inWork hq] at h
    cases h

theorem linesOk_within {s : State} {g : Stage} {n : Nat} (hg : ∀ q, g ≠ .own q) (hq : s.seq = .within g n) :
    LinesOk s ↔ OnBus s.lines (busAt s g n) := by
  unfold LinesOk
  rw [hq]
  cases g with
  | own q => exact absurd rfl (hg q)
  | _ => exact Iff.rfl

theorem engineInv_of_beginsWork {s : State} (hbegins : beginsWork s.seq = true) (hst : s.st = .operating) (hdone : s.done = false)
    (hlines : s.lines = sessionLines .input false true) (hwork : WorkFacts s) : EngineInv s := by
  cases hq : s.seq with
  | due | placed =>
    rw [hq] at hbegins
    cases hbegins
  | polling =>
    exact engineInv_of_inWork (by rw [hq]; rfl) (by simp only [InCode, hq]) hst (by simpa only [LinesOk, hq] using hlines) hdone hwork
  | within g n =>
    rw [hq] at hbegins
    obtain ⟨p, rfl⟩ | hg := own_or_work g
    · cases hbegins
    · obtain rfl : n = 0 := by
        cases g with
        | own p => exact absurd rfl (hg p)
        | _ => exact beq_iff_eq.mp hbegins
      refine engineInv_of_inWork (hq ▸ inWork_within hg 0) ?_ hst ?_ hdone hwork
      · simp only [InCode, hq]
        exact List.length_pos_iff.mpr (stageCode_ne_nil _ _ g (hg _))
      · rw [linesOk_within hg hq, busAt_zero, onBus_rest_iff]
        exact hlines

/-! ### The facts of S7's work, statement by statement -/

/-- A match stands as long as the table and the matcher's registers do. -/
theorem matched_congr {s t : State} (hm : Matched s) (hfound : t.found = s.found := by rfl) (hparams : t.params = s.params := by rfl)
    (hent : t.ent = s.ent := by rfl) (hsigb : t.sigb = s.sigb := by rfl) (hdesc : t.desc = s.desc := by rfl) : Matched t where
  found := hfound.trans hm.found
  entry := by rw [hparams, hent, hdesc, hm.entry]
  bytes := by rw [hsigb, hdesc, hm.bytes]
  real := by rw [hdesc, hm.real]

section
variable {s t : State} (h : SameRegisters s t)
include h

theorem verifying_of_same {k : Kind} (hv : Verifying s k) : Verifying t k where
  device := matched_congr hv.device h.found h.params h.ent h.sigb h.desc
  applies hk := by rw [h.desc, hv.applies hk]
  clean hok := by
    have e : earlierOk t k = earlierOk s k := by cases k <;> simp only [earlierOk, h.okl, h.okh]
    rw [h.fail, hv.clean (e ▸ hok)]
  causes := by
    rw [mismatchOnly, h.fail]
    exact hv.causes

theorem writesDefault_of_same {k : Kind} (hw : writesDefault s k) : writesDefault t k := by
  rw [writesDefault, h.kind, h.wval, h.desc]
  exact hw

end

theorem sameRegisters_moveTo {s t : State} (h : SameRegisters s t) (q : Seq) : SameRegisters s (moveTo q t) :=
  ⟨h.params, h.st, h.ent, h.sigb, h.found, h.desc, h.kind, h.wval, h.okl, h.okh, h.oke, h.outcome, h.done, h.fail⟩

/-- A stage of one statement is left after it. -/
theorem nextPosition_single {g : Stage} {n : Nat} {s : State} {c c' : Stmt} (hcode : stageCode s.params s.desc g = [c'])
    (hc : (stageCode s.params s.desc g)[n]? = some c) : c = c' ∧ nextPosition g n s = stageExit g s := by
  have hn := (List.getElem?_eq_some_iff.mp hc).1
  simp only [hcode, List.length_singleton, Nat.lt_one_iff] at hn
  subst hn
  simp only [hcode] at hc
  exact ⟨(Option.some.inj hc).symm, by simp [nextPosition, hcode]⟩

section
variable {s : State} {n : Nat} {c : Stmt}

/-- At the sentinel the cause is recorded and the scan is over; else the entry is real. -/
theorem workFacts_testEntry (hq : s.seq = .within .testEntry n) (hw : WorkFacts s) :
    WorkFacts (moveTo (stageExit .testEntry s) (testSentinel s)) := by
  simp only [WorkFacts, hq] at hw
  obtain ⟨hfound, hfail⟩ := hw
  rw [testSentinel_eq]
  by_cases ha : atSentinel s = true
  · simp only [stageExit, ha, if_true]
    exact ⟨fun h => absurd (hfound.symm.trans h) nofun, fun _ => if_pos hfail⟩
  · simp only [stageExit, ha]
    exact ⟨hfound, hfail, Bool.eq_false_iff.mpr ha⟩

/-- Reading a signature changes nothing the scan goes by but `SIGB`. -/
theorem workFacts_readEntry (hq : s.seq = .within .readEntry n) (hw : WorkFacts s)
    (hc : (stageCode s.params s.desc .readEntry)[n]? = some c) : WorkFacts (moveTo (nextPosition .readEntry n s) (c.act s)) := by
  simp only [WorkFacts, hq] at hw
  obtain ⟨hfound, hfail, hreal⟩ := hw
  have hkeep : (c.act s).found = s.found ∧ (c.act s).fail = s.fail ∧ atSentinel (c.act s) = atSentinel s := by
    obtain hframe | ⟨k, rfl⟩ := signatureCode_cases (List.mem_of_getElem? hc)
    · have h := SameRegisters.of_frameStmt hframe s
      exact ⟨h.found, h.fail, by rw [atSentinel, atSentinel, h.params, h.ent]⟩
    · exact ⟨rfl, rfl, rfl⟩
  obtain ⟨kfound, kfail, kreal⟩ := hkeep
  unfold nextPosition
  split <;> exact ⟨kfound.trans hfound, kfail.trans hfail, kreal.trans hreal⟩

/-- A match holds the whole entry; a difference goes on without one. -/
theorem workFacts_compareEntry (hq : s.seq = .within .compareEntry n) (hw : WorkFacts s) :
    WorkFacts (moveTo (stageExit .compareEntry s) (compareSignature s)) := by
  simp only [WorkFacts, hq] at hw
  obtain ⟨hfound, hfail, hreal⟩ := hw
  obtain ⟨e, hread, hm, hbytes, he⟩ | ⟨hm, he⟩ := compareSignature_cases s
  · simp only [stageExit, hm, if_true, he]
    simp only [atSentinel, hread] at hreal
    exact ⟨fun _ => ⟨⟨rfl, hread, hbytes, hreal⟩, hfail⟩, nofun⟩
  · simp only [stageExit, hm, he]
    exact ⟨hfound, hfail⟩

theorem workFacts_testFound (hq : s.seq = .within .testFound n) (hw : WorkFacts s) :
    WorkFacts (moveTo (stageExit .testFound s) s) := by
  simp only [WorkFacts, hq] at hw
  obtain ⟨hmatch, hnone⟩ := hw
  by_cases hf : s.found = true
  · simp only [stageExit, hf, if_true]
    obtain ⟨hm, hfail⟩ := hmatch hf
    exact ⟨⟨matched_congr hm, nofun, fun _ => hfail, .inl hfail⟩, nofun⟩
  · simp only [stageExit, hf]
    exact ⟨by simpa using hf, hnone (by simpa using hf)⟩

/-- From its first statement on, the strobe has `KIND` and `WVAL` of its VERIFY. -/
theorem workFacts_strobe {k : Kind} (hq : s.seq = .within (.strobe k) n) (hw : WorkFacts s)
    (hc : (stageCode s.params s.desc (.strobe k))[n]? = some c) : WorkFacts (moveTo (nextPosition (.strobe k) n s) (c.act s)) := by
  simp only [WorkFacts, hq] at hw
  obtain ⟨hv, hd⟩ := hw
  have hafter (q : Seq) : Verifying (moveTo q (c.act s)) k ∧ writesDefault (moveTo q (c.act s)) k := by
    cases n with
    | zero =>
      cases hc
      exact ⟨⟨matched_congr hv.device, hv.applies, by cases k <;> exact hv.clean, hv.causes⟩, rfl, rfl⟩
    | succ n =>
      have hall : (strobeCode s.params k (factoryValue s.desc k) ++ pollEntry s.params).all isFrameStmt = true := by
        rw [List.all_append, strobeCode, framesCode_isFrameStmt, pollEntry_isFrameStmt]
        rfl
      have hframe := List.all_eq_true.mp hall c (List.mem_of_getElem? (i := n) hc)
      have hsame := sameRegisters_moveTo (SameRegisters.of_frameStmt hframe s) q
      exact ⟨verifying_of_same hsame hv, writesDefault_of_same hsame (hd (by omega))⟩
  unfold nextPosition
  split
  · exact ⟨(hafter _).1, fun _ => (hafter _).2⟩
  · exact ⟨rfl, rfl, hafter _⟩

theorem workFacts_finish {o : WriteOwner} {k : Kind} {back : SessionStep} (hq : s.seq = .within (.finish o k back) n) (hw : WorkFacts s)
    (hc : (stageCode s.params s.desc (.finish o k back))[n]? = some c) :
    WorkFacts (moveTo (nextPosition (.finish o k back) n s) (c.act s)) := by
  simp only [WorkFacts, hq] at hw
  obtain ⟨rfl, rfl, hv, hd⟩ := hw
  have hall : (finishCode s.params ++ pollEntry s.params).all isFrameStmt = true := by
    rw [List.all_append, finishCode, framesCode_isFrameStmt, pollEntry_isFrameStmt]
    rfl
  have hsame := sameRegisters_moveTo (SameRegisters.of_frameStmt (List.all_eq_true.mp hall c (List.mem_of_getElem? hc)) s)
  unfold nextPosition
  split <;> exact ⟨rfl, rfl, verifying_of_same (hsame _) hv, writesDefault_of_same (hsame _) hd⟩

/-- The compare of a VERIFY: the flag is true only if no cause was recorded, so what follows is clean exactly as it must be. -/
theorem workFacts_judge {k : Kind} (hv : Verifying s k) : WorkFacts (moveTo (afterCompare k) (judge k s)) := by
  obtain ⟨hm, happ, hclean, hcauses⟩ := hv
  by_cases heq : s.rval = s.wval
  · rw [judge_of_equal heq]
    cases k with
    | low => exact ⟨⟨matched_congr hm, nofun, fun _ => hclean rfl, hcauses⟩, nofun⟩
    | high => exact ⟨matched_congr hm, hcauses, fun h _ => hclean h⟩
    | ext => exact fun _ hl hh _ => hclean ((Bool.and_eq_true _ _).mpr ⟨hl, hh⟩)
  · have hmis : failAfter .verifyMismatch s = .verifyMismatch := by
      rcases hcauses with h | h <;> simp [failAfter, h]
    rw [judge_of_different heq, raise_eq]
    cases k with
    | low => exact ⟨⟨matched_congr hm, nofun, nofun, .inr hmis⟩, nofun⟩
    | high => exact ⟨matched_congr hm, .inr hmis, nofun⟩
    | ext => exact nofun

theorem workFacts_readBack {o : WriteOwner} {k : Kind} {back : SessionStep} (hq : s.seq = .within (.readBack o k back) n)
    (hw : WorkFacts s) (hc : (stageCode s.params s.desc (.readBack o k back))[n]? = some c) :
    WorkFacts (moveTo (nextPosition (.readBack o k back) n s) (c.act s)) := by
  simp only [WorkFacts, hq] at hw
  obtain ⟨rfl, rfl, hv, hd⟩ := hw
  have hcode : stageCode s.params s.desc (.readBack .operate k .s8) = (readCode s.params k ++ [Stmt.keepReadBack]) ++ [.judge k] := by
    simp [stageCode, readBackCode]
  rw [nextPosition, hcode, List.length_append, List.length_singleton]
  rw [hcode] at hc
  by_cases hn : n < (readCode s.params k ++ [Stmt.keepReadBack]).length
  · rw [List.getElem?_append_left hn] at hc
    have hall : (readCode s.params k ++ [Stmt.keepReadBack]).all isFrameStmt = true := by
      rw [List.all_append, readCode, framesCode_isFrameStmt]
      rfl
    have hsame := sameRegisters_moveTo (SameRegisters.of_frameStmt (List.all_eq_true.mp hall c (List.mem_of_getElem? hc)) s)
    rw [if_pos (by omega)]
    exact ⟨rfl, rfl, verifying_of_same (hsame _) hv, writesDefault_of_same (hsame _) hd⟩
  · rw [List.getElem?_append_right (by omega)] at hc
    obtain rfl : c = .judge k := by simpa using List.mem_of_getElem? hc
    rw [if_neg (by omega)]
    exact workFacts_judge hv

theorem workFacts_testExt (hq : s.seq = .within .testExt n) (hw : WorkFacts s) : WorkFacts (moveTo (stageExit .testExt s) s) := by
  simp only [WorkFacts, hq] at hw
  obtain ⟨hm, hcauses, hclean⟩ := hw
  by_cases he : hasExtFuse s.desc = true
  · simp only [stageExit, he, if_true]
    have hboth (h : (s.okl && s.okh) = true) : s.okl = true ∧ s.okh = true := by simpa using h
    exact ⟨⟨matched_congr hm, fun _ => he, fun h => hclean (hboth h).1 (hboth h).2, hcauses⟩, nofun⟩
  · simp only [stageExit, he]
    exact ⟨matched_congr hm, hcauses, hclean, by simpa using he⟩

theorem workFacts_skipExt (hq : s.seq = .within .skipExt n) (hw : WorkFacts s) :
    WorkFacts (moveTo (stageExit .skipExt s) (skipExt s)) := by
  simp only [WorkFacts, hq] at hw
  obtain ⟨-, -, hclean, -⟩ := hw
  exact fun _ hl hh _ => hclean hl hh

theorem workFacts_noMatch : WorkFacts (moveTo (stageExit .noMatch s) (clearOks s)) := fun _ hl => nomatch hl

end

/-- Every statement of S7's work leaves what holds at the position that follows. -/
theorem workFacts_statement {s : State} {g : Stage} {n : Nat} {c : Stmt} (hg : ∀ q, g ≠ .own q) (hq : s.seq = .within g n)
    (hw : WorkFacts s) (hc : (stageCode s.params s.desc g)[n]? = some c) : WorkFacts (moveTo (nextPosition g n s) (c.act s)) := by
  cases g with
  | own q => exact absurd rfl (hg q)
  | readEntry => exact workFacts_readEntry hq hw hc
  | strobe k => exact workFacts_strobe hq hw hc
  | finish => exact workFacts_finish hq hw hc
  | readBack => exact workFacts_readBack hq hw hc
  | testEntry =>
    obtain ⟨rfl, hnext⟩ := nextPosition_single rfl hc
    exact hnext ▸ workFacts_testEntry hq hw
  | compareEntry =>
    obtain ⟨rfl, hnext⟩ := nextPosition_single rfl hc
    exact hnext ▸ workFacts_compareEntry hq hw
  | testFound =>
    obtain ⟨rfl, hnext⟩ := nextPosition_single rfl hc
    exact hnext ▸ workFacts_testFound hq hw
  | testExt =>
    obtain ⟨rfl, hnext⟩ := nextPosition_single rfl hc
    exact hnext ▸ workFacts_testExt hq hw
  | skipExt =>
    obtain ⟨rfl, hnext⟩ := nextPosition_single rfl hc
    exact hnext ▸ workFacts_skipExt hq hw
  | noMatch =>
    obtain ⟨rfl, hnext⟩ := nextPosition_single rfl hc
    exact hnext ▸ workFacts_noMatch
  | settle =>
    obtain ⟨rfl, hnext⟩ := nextPosition_single rfl hc
    rw [hnext]
    trivial

end Sys2Proof.Proofs
end

section
/-! PROOF. The engine's invariant through one step (spec/10_state.md R38, spec/43_session.md R198 to R203, spec/60_exceptions.md R220): the
statements of the session steps, those of S7's work, POLL, the look for Start and the placed frame. -/

namespace Sys2Proof.Proofs

open Sys2Proof.Machine Sys2Proof.Safety Sys2Proof.Claims Sys2Proof.Laws

/-! ### Positions in a session step -/

/-- A match, three true flags and no cause (R198). -/
def Restored (s : State) : Prop := s.found = true ∧ s.okl = true ∧ s.okh = true ∧ s.oke = true ∧ s.fail = .none

/-- The invariant before statement `n` of session step `p`, whose position is written in one of two ways. -/
structure InStep (s : State) (p : SessionStep) (n : Nat) : Prop where
  inCode : n < (sessionCode s.params p).length
  state : s.st = stepState p n
  lines : ∀ ls, stepLines p n = some ls → s.lines = ls
  running : s.done = false
  noEarlyFailure : earlyStep p = true → s.fail = .none
  cleared : p = .s7 → 2 ≤ n → s.found = false
  outcome : lateStep p = true → s.outcome = true → Restored s

theorem outcomeStands_due {s : State} {p : SessionStep} (hq : s.seq = .due p) (hp : p ≠ .idle) : outcomeStands s = lateStep p := by
  unfold outcomeStands
  rw [hq]
  cases p with
  | idle => exact absurd rfl hp
  | _ => rfl

/-- A statement stands at the beginning of its session step, or at its number within its stage. -/
theorem statementAt_cases {q : Seq} {g : Stage} {n : Nat} (h : statementAt q = some (g, n)) :
    (∃ p, q = .due p ∧ p ≠ .idle ∧ g = .own p ∧ n = 0) ∨ q = .within g n := by
  cases q with
  | due p =>
    by_cases hp : p = .idle
    · subst hp
      cases h
    · rw [statementAt_due hp] at h
      cases h
      exact .inl ⟨p, rfl, hp, rfl, rfl⟩
  | within =>
    cases h
    exact .inr rfl
  | polling | placed => cases h

theorem own_of_statementAt {q : Seq} {p : SessionStep} {n : Nat} (h : statementAt q = some (.own p, n)) :
    (q = .due p ∧ p ≠ .idle ∧ n = 0) ∨ q = .within (.own p) n := by
  obtain ⟨p', hq, hp, hg, hn⟩ | hq := statementAt_cases h
  · cases hg
    exact .inl ⟨hq, hp, hn⟩
  · exact .inr hq

theorem within_of_statementAt {q : Seq} {g : Stage} {n : Nat} (hg : ∀ p, g ≠ .own p) (h : statementAt q = some (g, n)) :
    q = .within g n := by
  obtain ⟨p, -, -, hown, -⟩ | hq := statementAt_cases h
  · exact absurd hown (hg p)
  · exact hq

theorem inStep_of_engineInv {s : State} {p : SessionStep} {n : Nat} (hinv : EngineInv s) (hat : statementAt s.seq = some (.own p, n)) :
    InStep s p n := by
  obtain ⟨hcode, hst, hlines, -, hrun, hearly, hwork, hout⟩ := hinv
  unfold LinesOk at hlines
  obtain ⟨hq, hp, rfl⟩ | hq := own_of_statementAt hat
  · rw [outcomeStands_due hq hp] at hout
    rw [hq] at hst hlines hearly
    exact
      { inCode := List.length_pos_iff.mpr (stageCode_ne_nil s.params s.desc (.own p) fun h => hp (Stage.own.inj h))
        state := hst
        lines := hlines
        running := hrun (by simp [hq, hp])
        noEarlyFailure := hearly
        cleared := fun _ h => absurd h (by decide)
        outcome := hout }
  · unfold InCode at hcode
    unfold WorkFacts at hwork
    unfold outcomeStands at hout
    rw [hq] at hst hlines hearly hcode hwork hout
    exact
      { inCode := hcode
        state := hst
        lines := hlines
        running := hrun (by simp [hq])
        noEarlyFailure := hearly
        cleared := hwork
        outcome := hout }

theorem InStep.engineInv {s : State} {p : SessionStep} {n : Nat} (h : InStep s p n) (hat : statementAt s.seq = some (.own p, n)) :
    EngineInv s := by
  obtain ⟨hq, hp, rfl⟩ | hq := own_of_statementAt hat
  · exact
      { inCode := by simp only [InCode, hq]
        state := by rw [hq]; exact h.state
        lines := by simpa only [LinesOk, hq] using h.lines
        afterSession := fun hi => absurd (Seq.due.inj (hq.symm.trans hi)) hp
        running := fun _ => h.running
        noEarlyFailure := by rw [hq]; exact h.noEarlyFailure
        work := by simp only [WorkFacts, hq]
        outcome := by rw [outcomeStands_due hq hp]; exact h.outcome }
  · exact
      { inCode := by simp only [InCode, hq]; exact h.inCode
        state := by rw [hq]; exact h.state
        lines := by simpa only [LinesOk, hq] using h.lines
        afterSession := fun hi => nomatch hq.symm.trans hi
        running := fun _ => h.running
        noEarlyFailure := by rw [hq]; exact h.noEarlyFailure
        work := by simpa only [WorkFacts, hq] using h.cleared
        outcome := by simp only [outcomeStands, hq]; exact h.outcome }

/-- No position is past the end of a stage's statements. -/
theorem lt_length_of_engineInv {s : State} {g : Stage} {n : Nat} (hinv : EngineInv s) (hat : statementAt s.seq = some (g, n)) :
    n < (stageCode s.params s.desc g).length := by
  obtain ⟨p, rfl⟩ | hg := own_or_work g
  · exact (inStep_of_engineInv hinv hat).inCode
  · have h := hinv.inCode
    rwa [InCode, within_of_statementAt hg hat] at h

/-- S7's work is over, by the outcome or by the surrender, or a placed frame has been sent: S8 comes next. -/
theorem engineInv_before_s8 {s : State} (hq : s.seq = .due .s8) (hst : s.st = .operating)
    (hlines : s.lines = sessionLines .input false true) (hdone : s.done = false) (hout : s.outcome = true → Restored s) : EngineInv s :=
  InStep.engineInv (p := .s8) (n := 0)
    { inCode := by simp [sessionCode]
      state := hst
      lines := fun _ h => Option.some.inj h ▸ hlines
      running := hdone
      noEarlyFailure := nofun
      cleared := nofun
      outcome := fun _ => hout }
    (by rw [hq]; rfl)

/-! ### The statements of the session steps other than S7's work -/

/-- From one statement of a session step to the next, in the same step or a later one: what the statement writes is `ST` and the lines as
the table of R201 and R203 says; the flags and the cause stay. -/
theorem InStep.to {s t : State} {p p' : SessionStep} {n n' : Nat} {ls : Lines} (h : InStep s p n)
    (hat : statementAt t.seq = some (.own p', n'))
    (hkeep : t = { s with lines := t.lines, st := t.st, seq := t.seq, trace := t.trace })
    (hst : t.st = stepState p' n') (hlines : t.lines = ls) (hrow : stepLines p' n' = some ls := by rfl)
    (hcode : n' < (sessionCode s.params p').length := by simp [sessionCode, matchEntry])
    (hearly : earlyStep p' = earlyStep p := by rfl) (hlate : lateStep p' = lateStep p := by rfl)
    (hcleared : p' = .s7 → n' ≤ 1 := by simp) : EngineInv t := by
  refine InStep.engineInv (p := p') (n := n') ?_ hat
  have hls : ∀ ls', stepLines p' n' = some ls' → t.lines = ls' := fun _ h => hlines.trans (Option.some.inj (hrow.symm.trans h))
  rw [hkeep]
  exact
    { inCode := hcode
      state := hst
      lines := hls
      running := h.running
      noEarlyFailure := fun he => h.noEarlyFailure (hearly ▸ he)
      cleared := fun hp hn => absurd (hcleared hp) (by omega)
      outcome := fun hl => h.outcome (hlate ▸ hl) }

/-- The table of R201 and R203, statement by statement. -/
theorem engineInv_ownStatement {s : State} {p : SessionStep} {n : Nat} {c : Stmt} (h : InStep s p n)
    (hc : (sessionCode s.params p)[n]? = some c) : EngineInv (moveTo (nextPosition (.own p) n s) (c.act s)) := by
  have after (e : Event) {ls : Lines} (hls : stepLines p n = some ls) : e.apply s.lines = e.apply ls := congrArg e.apply (h.lines ls hls)
  match p, n, hc with
  | .s1, 0, rfl => exact h.to (p' := .s1) (n' := 1) rfl rfl h.state rfl
  | .s1, 1, rfl => exact h.to (p' := .s2) (n' := 0) rfl rfl rfl (h.lines _ rfl)
  | .s2, 0, rfl => exact h.to (p' := .s3) (n' := 0) rfl rfl h.state (after (.setLevel .vcc true) rfl)
  | .s3, 0, rfl => exact h.to (p' := .s3) (n' := 1) rfl rfl h.state (h.lines _ rfl)
  | .s3, 1, rfl => exact h.to (p' := .s3) (n' := 2) rfl rfl h.state (after (.setLevel .rst false) rfl)
  | .s3, 2, rfl => exact h.to (p' := .s4) (n' := 0) rfl rfl rfl (h.lines _ rfl)
  | .s4, 0, rfl => exact h.to (p' := .s5) (n' := 0) rfl rfl h.state (h.lines _ rfl)
  | .s5, 0, rfl => exact h.to (p' := .s5) (n' := 1) rfl rfl h.state (after (.setDir .sdo .input) rfl)
  | .s5, 1, rfl => exact h.to (p' := .s6) (n' := 0) rfl rfl rfl (h.lines _ rfl)
  | .s6, 0, rfl => exact h.to (p' := .s7) (n' := 0) rfl rfl h.state (h.lines _ rfl)
  | .s7, 0, rfl => exact h.to (p' := .s7) (n' := 1) rfl rfl rfl (h.lines _ rfl)
  | .s7, 1, rfl =>
    -- FOUND is cleared here
    exact InStep.engineInv (p := .s7) (n := 2)
      ⟨Nat.lt_succ_self 2, h.state, h.lines, h.running, h.noEarlyFailure, fun _ _ => rfl, nofun⟩ rfl
  | .s7, 2, rfl =>
    -- the scan begins
    exact engineInv_of_beginsWork rfl h.state h.running (h.lines _ rfl) ⟨h.cleared rfl le_rfl, h.noEarlyFailure rfl⟩
  | .s8, 0, rfl => exact h.to (p' := .s8) (n' := 1) rfl rfl rfl (h.lines _ rfl)
  | .s8, 1, rfl =>
    exact h.to (p' := .s8) (n' := 2) rfl rfl h.state (after (.setGroup [] [(.sci, false), (.sii, false), (.sdi, false)]) rfl)
  | .s8, 2, rfl => exact h.to (p' := .s8) (n' := 3) rfl rfl h.state (after (.setLevel .rst true) rfl)
  | .s8, 3, rfl => exact h.to (p' := .s8) (n' := 4) rfl rfl h.state (h.lines _ rfl)
  | .s8, 4, rfl => exact h.to (p' := .s9) (n' := 0) rfl rfl h.state (after (.setLevel .vcc false) rfl)
  | .s9, 0, rfl => exact h.to (p' := .s9) (n' := 1) rfl rfl rfl (h.lines _ rfl)
  | .s9, 1, rfl =>
    -- DONE is set, with the outcome S7 left
    exact
      { inCode := trivial
        state := h.state
        lines := fun _ h => absurd h (Option.some_ne_none _).symm
        afterSession := fun _ _ => h.lines _ rfl
        running := fun hne => absurd rfl hne
        noEarlyFailure := nofun
        work := trivial
        outcome := fun _ => h.outcome rfl }

/-! ### The statements of S7's work -/

theorem st_of_within {s : State} {g : Stage} {n : Nat} (hinv : EngineInv s) (hg : ∀ q, g ≠ .own q)
    (hq : s.seq = .within g n) : s.st = .operating := by
  rw [hinv.state, hq]
  cases g with
  | own q => exact absurd rfl (hg q)
  | _ => rfl

/-- Every stage of S7's work but the last is followed by another: in a session a VERIFY belongs to S7. -/
theorem stageExit_beginsWork {s : State} {g : Stage} {n : Nat} (hg : ∀ q, g ≠ .own q) (hlast : g ≠ .settle) (hq : s.seq = .within g n)
    (hw : WorkFacts s) : beginsWork (stageExit g s) = true := by
  cases g with
  | own q => exact absurd rfl (hg q)
  | settle => exact absurd rfl hlast
  | readBack o k back =>
    simp only [WorkFacts, hq] at hw
    obtain ⟨rfl, -⟩ := hw
    cases k <;> rfl
  | readEntry | skipExt | noMatch | strobe | finish => rfl
  | testEntry | compareEntry | testFound | testExt =>
    simp only [stageExit]
    split <;> rfl

/-- The outcome is true only after a match, three true flags and no cause (R198, R220). -/
theorem restored_of_settle {s : State} {n : Nat} (hw : WorkFacts s) (hq : s.seq = .within .settle n)
    (hout : (settleOutcome s).outcome = true) : Restored s := by
  simp only [WorkFacts, hq] at hw
  obtain ⟨⟨⟨hf, hl⟩, hh⟩, he⟩ : ((s.found = true ∧ s.okl = true) ∧ s.okh = true) ∧ s.oke = true := by
    simpa [settleOutcome] using hout
  exact ⟨hf, hl, hh, he, hw hf hl hh he⟩

/-- Every statement of S7's work, inside its stage or at its end. -/
theorem engineInv_workStatement {s : State} {g : Stage} {n : Nat} {c : Stmt} (hinv : EngineInv s) (hg : ∀ q, g ≠ .own q)
    (hq : s.seq = .within g n) (hc : (stageCode s.params s.desc g)[n]? = some c) :
    EngineInv (moveTo (nextPosition g n s) (c.act s)) := by
  have hwork := workFacts_statement hg hq hinv.work hc
  have hstmt : isWorkStmt c = true := List.all_eq_true.mp (stageCode_isWorkStmt _ _ g hg) c (List.mem_of_getElem? hc)
  obtain ⟨hst, hdone⟩ := act_st_done hstmt s
  rw [st_of_within hinv hg hq] at hst
  rw [hinv.running (by simp [hq])] at hdone
  have hbus : OnBus (c.act s).lines (busAt s g (n + 1)) := by
    rw [busAt_succ hc]
    exact OnBus.act ((linesOk_within hg hq).mp hinv.lines) hstmt
  by_cases hn : n + 1 < (stageCode s.params s.desc g).length
  · have hmany : g ≠ .compareEntry := by
      rintro rfl
      simp [stageCode] at hn
    have hkeeps := List.all_eq_true.mp (stageCode_keeps s.params s.desc g hg hmany) c (List.mem_of_getElem? hc)
    have hdesc : (c.act s).desc = s.desc := act_desc c s ((Bool.and_eq_true _ _).mp hkeeps).2
    have hcode : stageCode (c.act s).params (c.act s).desc g = stageCode s.params s.desc g := by rw [act_params, hdesc]
    rw [nextPosition, if_pos hn] at hwork ⊢
    refine engineInv_of_inWork (inWork_within hg _) ?_ hst ((linesOk_within hg rfl).mpr ?_) hdone hwork
    · show n + 1 < (stageCode (c.act s).params (c.act s).desc g).length
      rwa [hcode]
    · show OnBus (c.act s).lines (((stageCode (c.act s).params (c.act s).desc g).take (n + 1)).foldl Bus.after Bus.rest)
      rwa [hcode]
  · rw [nextPosition, if_neg hn] at hwork ⊢
    rw [busAt_end hg (by omega), onBus_rest_iff] at hbus
    by_cases hlast : g = .settle
    · subst hlast
      obtain ⟨rfl, -⟩ := nextPosition_single (c' := .settle) rfl hc
      exact engineInv_before_s8 rfl hst hbus hdone (restored_of_settle hinv.work hq)
    · exact engineInv_of_beginsWork (stageExit_beginsWork hg hlast hq hinv.work) hst hdone hbus hwork

/-! ### Idle, POLL and the placed frame -/

theorem engineInv_look {s : State} (hinv : EngineInv s) (hq : s.seq = .due .idle) : EngineInv (lookForStart s) where
  inCode := hinv.inCode
  state := hinv.state
  lines := hinv.lines
  afterSession := hinv.afterSession
  running := hinv.running
  noEarlyFailure := hinv.noEarlyFailure
  work := by simp only [WorkFacts, lookForStart_seq, hq]
  outcome := hinv.outcome

theorem engineInv_start {s : State} (hst : s.st = .idle) :
    EngineInv (goTo .s1 { emit .start (lookForStart s) with done := false, fail := .none }) :=
  InStep.engineInv (p := .s1) (n := 0)
    { inCode := Nat.zero_lt_two
      state := hst
      lines := fun _ h => absurd h (Option.some_ne_none _).symm
      running := rfl
      noEarlyFailure := fun _ => rfl
      cleared := nofun
      outcome := nofun }
    rfl

/-- In a session a POLL belongs to a write of the VERIFY of some kind. -/
theorem poll_of_engineInv {s : State} {site : PollSite} {back : SessionStep} (hinv : EngineInv s) (hq : s.seq = .polling site back) :
    ∃ k second, site = .fuseWrite .operate k second ∧ back = .s8 ∧ Verifying s k ∧ writesDefault s k := by
  have hwork := hinv.work
  cases site with
  | alone => simp only [WorkFacts, hq] at hwork
  | fuseWrite o k second =>
    simp only [WorkFacts, hq] at hwork
    obtain ⟨rfl, rfl, hv, hd⟩ := hwork
    exact ⟨k, second, rfl, rfl, hv, hd⟩

theorem beginsWork_of_poll {k : Kind} {second : Bool} {q : Seq}
    (hto : q = Machine.afterPoll (.fuseWrite .operate k second) .s8 ∨ q = .polling (.fuseWrite .operate k second) .s8) :
    beginsWork q = true := by
  obtain rfl | rfl := hto
  · cases second <;> rfl
  · rfl

theorem atRest_of_poll {s : State} {site : PollSite} {back : SessionStep} (hinv : EngineInv s) (hq : s.seq = .polling site back) :
    s.st = .operating ∧ s.lines = sessionLines .input false true ∧ s.done = false := by
  have hlines := hinv.lines
  rw [LinesOk, hq] at hlines
  exact ⟨hinv.state.trans (by rw [hq]; rfl), hlines, hinv.running (by simp [hq])⟩

theorem engineInv_sample {s : State} {site : PollSite} {back : SessionStep} {q : Seq} (hinv : EngineInv s) (hq : s.seq = .polling site back)
    (hto : q = Machine.afterPoll site back ∨ q = .polling site back) : EngineInv (moveTo q (pollSample s)) := by
  have hsame := sameRegisters_moveTo (SameRegisters.of_pollSample s) q
  obtain ⟨hst, hlines, hdone⟩ := atRest_of_poll hinv hq
  obtain ⟨k, second, rfl, rfl, hv, hd⟩ := poll_of_engineInv hinv hq
  have hfacts : Verifying (moveTo q (pollSample s)) k ∧ writesDefault (moveTo q (pollSample s)) k :=
    ⟨verifying_of_same hsame hv, writesDefault_of_same hsame hd⟩
  refine engineInv_of_beginsWork (beginsWork_of_poll hto) (hsame.st.trans hst) (hsame.done.trans hdone)
    ((pollSample_lines s).trans hlines) ?_
  obtain rfl | rfl := hto
  · cases second <;> exact ⟨rfl, rfl, hfacts⟩
  · exact ⟨rfl, rfl, hfacts⟩

theorem engineInv_surrender {s : State} {site : PollSite} {back : SessionStep} (hinv : EngineInv s) (hq : s.seq = .polling site back) :
    EngineInv (abandonSession (pollSample s)) := by
  have hsame := SameRegisters.of_pollSample s
  obtain ⟨hst, hlines, hdone⟩ := atRest_of_poll hinv hq
  refine engineInv_before_s8 rfl ?_ ?_ ?_ nofun
  · exact (raise_st _ _).trans (hsame.st.trans hst)
  · rw [abandonSession_lines, pollSample_lines, hlines]
  · exact (raise_done _ _).trans (hsame.done.trans hdone)

theorem engineInv_frame {s : State} {cmd : LoadedCommand} {cw : CommandWord} (hinv : EngineInv s) (hq : s.seq = .placed cmd cw)
    (d i : Byte) : EngineInv (afterFrame d i (goTo .s8 s)) := by
  obtain ⟨-, hst, hlines, -, hrun, -, -, hout⟩ := hinv
  unfold LinesOk at hlines
  unfold outcomeStands at hout
  rw [hq] at hst hlines hout
  exact engineInv_before_s8 rfl hst (congrArg atRest hlines) (hrun (by simp [hq])) (hout rfl)

/-! ### The whole step -/

/-- Settles O52: by the cases of what a step can do. -/
theorem everyStepKeepsInvariant : Obligations.EveryStepKeepsInvariant := by
  intro s t hinv h
  cases step_cases h with
  | look hq ht => exact ht ▸ engineInv_look hinv hq
  | start hq ht => exact ht ▸ engineInv_start (hinv.state.trans (by rw [hq]; rfl))
  | statement g n c hat hc ht =>
    subst ht
    obtain ⟨p, rfl⟩ | hg := own_or_work g
    · exact engineInv_ownStatement (inStep_of_engineInv hinv hat) hc
    · exact engineInv_workStatement hinv hg (within_of_statementAt hg hat) hc
  | pastEnd g n hat hn ht => exact absurd (lt_length_of_engineInv hinv hat) (by omega)
  | sample site back q hq hto ht => exact ht ▸ engineInv_sample hinv hq hto
  | surrender site back hq ht => exact ht ▸ engineInv_surrender hinv hq
  | frame cmd cw d i hq ht => exact ht ▸ engineInv_frame hinv hq d i

end Sys2Proof.Proofs
end

section
/-! PROOF. The sequencer's steps come to what the meaning of each session step answers (spec/10_state.md R26, spec/20_memory.md R73). For
S7 the argument follows the meaning's own shape: the scan by induction on the entries still to come, then one VERIFY after the other, each
with what follows it. -/

namespace Sys2Proof.Proofs

open Sys2Proof.Machine Sys2Proof.Safety Sys2Proof.Claims Sys2Proof.Laws

/-! ### Stages of one statement, whatever the direction of SDO -/

theorem reaches_single {g : Stage} {c : Stmt} (s : State) (hcode : stageCode s.params s.desc g = [c]) (hc : c.reads = false) :
    Reaches (moveTo (.within g 0) s) (moveTo (stageExit g s) (c.act s)) := by
  have h := reaches_stage g s (by simp [hcode]) (.inl (by simp [hcode, hc])) (by simp [hcode])
  rwa [hcode] at h

/-- The end of S7: the outcome, and on to S8. -/
theorem reaches_endOperate (s : State) : Reaches (moveTo (.within .settle 0) s) (endOperate s) :=
  reaches_single (g := .settle) (c := .settle) s rfl rfl

/-! ### SDO stays readable through S7's work -/

theorem afterFrames_readable (l : List (Byte × Byte)) : ∀ {s : State}, Readable s → Readable (afterFrames l s) := by
  induction l with
  | nil => exact fun h => h
  | cons x l ih => exact fun {s} h => ih (s := afterFrame x.1 x.2 s) h

theorem strobe_readable {k : Kind} {v : Byte} {s : State} (h : Readable s) : Readable (strobe k v s) := by
  rw [strobe_eq]
  exact afterFrames_readable _ h

theorem readSignature_readable {s : State} (h : Readable s) : Readable (readSignature s) := by
  have hmatch (m : Nat) (g : Signature) (f : Bool) (e : Descriptor) (t : State) (ht : Readable t) : Readable (withMatch m g f e t) := ht
  rw [readSignature_eq]
  exact hmatch _ _ _ _ _ (afterFrames_readable _ h)

theorem compareSignature_readable {s : State} (h : Readable s) : Readable (compareSignature s) := by
  rw [Readable, compareSignature_lines]
  exact h

theorem endVerify_readable {k : Kind} {s : State} (h : Readable s) : Readable (endVerify k s) := by
  have hback (r : Byte) (c : Cause) (t : State) (ht : Readable t) : Readable (withReadBack r c t) := ht
  rw [endVerify_eq, Readable, setOk_lines]
  exact hback _ _ _ (afterFrames_readable _ h)

/-! ### The scan of MATCH -/

theorem readSignature_ent_params (s : State) : (readSignature s).ent = s.ent ∧ (readSignature s).params = s.params := by
  obtain ⟨hent, -, -, -, hparams, -⟩ :=
    withMatch_fields s.ent ⟨byteAt s 24, byteAt s 56, byteAt s 88⟩ s.found s.desc (afterFrames signatureFrames s)
  rw [readSignature_eq]
  exact ⟨hent, hparams.trans (afterFrames_keeps _ s).1⟩

/-- An entry that is no sentinel is in the table. -/
theorem ent_lt_length {s : State} (h : atSentinel s = false) : s.ent < s.params.deviceTable.length := by
  unfold atSentinel tableRead at h
  split at h
  · cases h
  · rename_i e he
    exact (List.getElem?_eq_some_iff.mp he).1

/-- One entry that is real: its three bytes are read and compared. -/
theorem reaches_entry {s : State} (hr : Readable s) (hreal : atSentinel s = false) :
    Reaches (moveTo (.within .testEntry 0) s)
      (moveTo (if entryMatches (readSignature s) then .within .testFound 0 else .within .testEntry 0)
        (compareSignature (readSignature s))) := by
  have htest := reaches_testEntry s hr
  rw [testSentinel, hreal, if_neg Bool.false_ne_true, if_neg Bool.false_ne_true] at htest
  exact reaches_trans htest (reaches_trans (reaches_readEntry s hr) (reaches_compareEntry _ (readSignature_readable hr)))

/-- From the sentinel test of one entry to the end of the scan; `n` bounds the entries still to come. -/
theorem reaches_scanTable (n : Nat) : ∀ s : State, (Readable s ∨ atSentinel s = true) → s.ent ≤ s.params.deviceTable.length →
    s.params.deviceTable.length < n + s.ent →
    Reaches (moveTo (.within .testEntry 0) s) (moveTo (.within .testFound 0) (scanTable n s)) := by
  induction n with
  | zero => exact fun s _ hle hlt => by omega
  | succ n ih =>
    intro s hread hle hlt
    rw [scanTable]
    by_cases hend : atSentinel s = true
    · have htest := reaches_single (g := .testEntry) (c := .testEntry) s rfl rfl
      rw [stageExit, if_pos hend] at htest
      rw [if_pos hend]
      exact htest
    · have hreal : atSentinel s = false := by simpa using hend
      have hr : Readable s := hread.resolve_right hend
      have hentry := reaches_entry hr hreal
      have hlt' := ent_lt_length hreal
      obtain ⟨hent, hparams⟩ := readSignature_ent_params s
      have hr' := compareSignature_readable (readSignature_readable hr)
      rw [if_neg hend]
      generalize readSignature s = r at *
      obtain ⟨-, -, hm, -, -⟩ | ⟨hm, he⟩ := compareSignature_cases r
      · rw [if_pos hm] at hentry ⊢
        exact hentry
      · rw [hm, if_neg Bool.false_ne_true] at hentry ⊢
        rw [he] at hr' hentry ⊢
        refine reaches_trans hentry (ih _ (.inl hr') ?_ ?_)
        · show r.ent + 1 ≤ r.params.deviceTable.length
          rw [hent, hparams]
          omega
        · show r.params.deviceTable.length < n + (r.ent + 1)
          rw [hent, hparams]
          omega

/-! ### The VERIFYs of S7 -/

/-- A POLL just begun, with what follows it where it is answered. -/
theorem reaches_pollFrom (site : PollSite) (back : SessionStep) (ready : State → State) (s : State) (hr : Readable s)
    (hready : ∀ t, Readable t → Reaches (moveTo (Machine.afterPoll site back) t) (ready t)) :
    Reaches (moveTo (.polling site back) (enterPoll s)) (pollFrom site back ready s) := by
  cases h : s.sample 0 with
  | true =>
    rw [pollFrom_ready site back ready s h]
    exact reaches_trans (reaches_enter_high s site back hr h) (hready _ hr)
  | false =>
    rw [pollFrom_low site back ready s h]
    exact reaches_enter_low s site back hr h

/-- The strobe of a VERIFY of S7, as its meaning writes it. -/
theorem afterStrobe_withSessionVerify (k : Kind) (s : State) :
    afterStrobe k.writeA k.writeB (kindDefault s.desc k) (withSessionVerify k s) =
      strobe k (factoryValue s.desc k) (beginVerify k (factoryValue s.desc k) s) := by
  have hv : factoryValue s.desc k = kindDefault s.desc k := by cases k <;> rfl
  have hA : writeByteA k = k.writeA := by cases k <;> rfl
  have hB : writeByteB k = k.writeB := by cases k <;> rfl
  have hbegin : beginVerify k (kindDefault s.desc k) s = withSessionVerify k s := rfl
  rw [strobe_eq, hA, hB, hv, hbegin]

/-- A VERIFY of S7, with what follows its write. -/
theorem reaches_verifyInSession (k : Kind) (after : State → State) (s : State) (hr : Readable s)
    (hafter : ∀ t, Readable t → Reaches (moveTo (.within (.readBack .operate k .s8) 0) t) (after t)) :
    Reaches (moveTo (.within (.strobe k) 0) s) (verifyInSession k after s) := by
  have hfinish (t : State) (ht : Readable t) :
      Reaches (moveTo (.within (.finish .operate k .s8) 0) t) (finishWrite .operate k .s8 after t) := by
    rw [finishWrite, finishCode_perform]
    exact reaches_trans (reaches_finish .operate k .s8 t ht)
      (reaches_pollFrom _ _ _ _ (afterFrames_readable [(0x00, 0x4C)] ht) hafter)
  have hstrobe := reaches_strobe k s hr
  rw [afterStrobe_withSessionVerify] at hstrobe
  rw [verifyInSession, writeFuse]
  exact reaches_trans hstrobe (reaches_pollFrom _ _ _ _ (strobe_readable hr) hfinish)

/-- The read back and the compare that end a VERIFY of S7, and then what `next` is at the position that follows. -/
theorem reaches_afterVerify (k : Kind) (next : State → State) (hnext : ∀ t, Readable t → Reaches (moveTo (afterCompare k) t) (next t))
    (s : State) (hr : Readable s) : Reaches (moveTo (.within (.readBack .operate k .s8) 0) s) (next (endVerify k s)) := by
  have h := reaches_readBack .operate k .s8 s hr
  rw [← endVerify_verified] at h
  exact reaches_trans h (hnext _ (endVerify_readable hr))

theorem reaches_operateAfterExt (s : State) (hr : Readable s) :
    Reaches (moveTo (.within (.readBack .operate .ext .s8) 0) s) (operateAfterExt s) :=
  reaches_afterVerify .ext endOperate (fun t _ => reaches_endOperate t) s hr

theorem reaches_operateExt (s : State) (hr : Readable s) : Reaches (moveTo (.within .testExt 0) s) (operateExt s) := by
  have h := reaches_single (g := .testExt) (c := .test) s rfl rfl
  rw [stageExit] at h
  rw [operateExt]
  by_cases hext : hasExtFuse s.desc = true
  · rw [if_pos hext] at h ⊢
    exact reaches_trans h (reaches_verifyInSession .ext _ s hr reaches_operateAfterExt)
  · rw [if_neg hext] at h ⊢
    exact reaches_trans h (reaches_trans (reaches_single (g := .skipExt) (c := .skipExt) s rfl rfl) (reaches_endOperate (skipExt s)))

theorem reaches_operateAfterHigh (s : State) (hr : Readable s) :
    Reaches (moveTo (.within (.readBack .operate .high .s8) 0) s) (operateAfterHigh s) :=
  reaches_afterVerify .high operateExt reaches_operateExt s hr

theorem reaches_operateAfterLow (s : State) (hr : Readable s) :
    Reaches (moveTo (.within (.readBack .operate .low .s8) 0) s) (operateAfterLow s) :=
  reaches_afterVerify .low (verifyInSession .high operateAfterHigh)
    (fun t ht => reaches_verifyInSession .high _ t ht reaches_operateAfterHigh) s hr

/-- S7 once the scan is over; with no match it reads nothing. -/
theorem reaches_operateFound (s : State) (hr : Readable s ∨ s.found = false) :
    Reaches (moveTo (.within .testFound 0) s) (operateFound s) := by
  have h := reaches_single (g := .testFound) (c := .test) s rfl rfl
  rw [stageExit] at h
  rw [operateFound]
  by_cases hfound : s.found = true
  · rw [if_pos hfound] at h ⊢
    exact reaches_trans h (reaches_verifyInSession .low _ s (hr.resolve_right (by simp [hfound])) reaches_operateAfterLow)
  · rw [if_neg hfound] at h ⊢
    exact reaches_trans h (reaches_trans (reaches_single (g := .noMatch) (c := .clearOks) s rfl rfl) (reaches_endOperate (clearOks s)))

/-! ### S7, and the other session steps -/

/-- S7 up to the scan. -/
def beginScan (s : State) : State := perform (sessionCode s.params .s7) s

theorem atSentinel_beginScan {s : State} (h : scanReads s = false) : atSentinel (beginScan s) = true := by
  have hread : tableRead (beginScan s).params (beginScan s).ent = tableRead s.params 0 := rfl
  unfold atSentinel
  unfold scanReads at h
  rw [hread]
  cases he : tableRead s.params 0 with
  | none => rfl
  | some e =>
    rw [he] at h
    exact (Bool.not_eq_false' (b := isSentinel e)).mp h

theorem scanTable_readable (n : Nat) : ∀ {s : State}, Readable s → Readable (scanTable n s) := by
  induction n with
  | zero => exact fun h => h
  | succ n ih =>
    intro s h
    have hnext := compareSignature_readable (readSignature_readable h)
    rw [scanTable]
    split
    · rw [Readable, testSentinel_lines]
      exact h
    split
    · exact hnext
    · exact ih hnext

/-- S7, where it may read SDO or has nothing to read. -/
theorem reaches_operate (s : State) (hq : s.seq = .due .s7) (hr : Readable s ∨ scanReads s = false) : Reaches s (operate s) := by
  have hbegin : Reaches s (moveTo (.within .testEntry 0) (beginScan s)) := reaches_own .s7 s nofun hq
  have hscan := reaches_scanTable (s.params.deviceTable.length + 1) (beginScan s) (hr.imp_right atSentinel_beginScan) (Nat.zero_le _)
    (Nat.lt_succ_self _)
  refine reaches_trans hbegin (reaches_trans hscan (reaches_operateFound _ (hr.imp (fun h => scanTable_readable _ h) fun h => ?_)))
  rw [scanTable, if_pos (atSentinel_beginScan h), testSentinel_eq]
  rfl

theorem readingIfScanned_next {f : State → State} {s t : State} (h : readingIfScanned f s = .next t) :
    (Readable s ∨ scanReads s = false) ∧ t = f s := by
  unfold readingIfScanned at h
  split at h
  · exact ⟨.inl (readingSdo_next h).1, (readingSdo_next h).2⟩
  · rename_i hscan
    cases h
    exact ⟨.inr hscan, rfl⟩

/-- A session step other than S7 is its statements and nothing more. -/
theorem reaches_runSession {p next : SessionStep} {s t : State} (hp : p ≠ .idle) (hnext : afterStep p = .due next)
    (hq : s.seq = .due p) (h : runSession p next s = .next t) : Reaches s t := by
  cases h
  have h := reaches_own p s hp hq
  rwa [hnext] at h

/-- Settles O46: S7 by its stages, the other session steps by their statements. -/
theorem stepRunsNamedOperation : Obligations.StepRunsNamedOperation := by
  intro s t
  refine ⟨reaches_runSession nofun rfl, reaches_runSession nofun rfl, reaches_runSession nofun rfl, reaches_runSession nofun rfl,
    reaches_runSession nofun rfl, reaches_runSession nofun rfl, fun hq h => ?_, reaches_runSession nofun rfl,
    reaches_runSession nofun rfl⟩
  obtain ⟨hr, rfl⟩ := readingIfScanned_next h
  exact reaches_operate s hq hr

end Sys2Proof.Proofs
end

section
/-! PROOF. What a step does to the lines: one event at most (spec/20_memory.md R73), SDI and SII moved only under a low clock
(spec/40_bit_and_frame.md R135), and the high voltage only on a powered target (spec/10_state.md R23). -/

namespace Sys2Proof.Proofs

open Sys2Proof.Machine Sys2Proof.Safety Sys2Proof.Claims Sys2Proof.Laws

/-! ### One event at most -/

theorem act_trace_length (c : Stmt) (s : State) : (c.act s).trace.length ≤ s.trace.length + 1 := by
  cases c with
  | level | direction | group | wait | sample | drive | publish => exact le_rfl
  | testEntry => exact (congrArg List.length (testSentinel_trace s)).trans_le (Nat.le_succ _)
  | compareEntry => exact (congrArg List.length (compareSignature_trace s)).trans_le (Nat.le_succ _)
  | judge k => exact (congrArg List.length (judge_trace k s)).trans_le (Nat.le_succ _)
  | load | slot | shift | clearCount | clearFound | firstEntry | keepSignature | beginVerify | keepReadBack | test | skipExt
  | clearOks | settle | state => exact Nat.le_succ _

theorem pollSample_trace_length (s : State) : (pollSample s).trace.length = s.trace.length + 1 := by
  rw [pollSample_eq]
  rfl

theorem step_trace_length {s t : State} (hplaced : ∀ cmd cw, s.seq ≠ .placed cmd cw) (h : step s = .next t) :
    t.trace.length ≤ s.trace.length + 1 := by
  cases step_cases h with
  | look _ ht | pastEnd _ _ _ _ ht => exact ht ▸ Nat.le_succ _
  | start _ ht => exact ht ▸ le_rfl
  | statement _ _ c _ _ ht => exact ht ▸ act_trace_length c s
  | sample _ _ _ _ _ ht => exact ht ▸ (pollSample_trace_length s).le
  | surrender _ _ _ ht => exact ht ▸ ((congrArg List.length (raise_trace _ _)).trans (pollSample_trace_length s)).le
  | frame cmd cw _ _ hq => exact absurd hq (hplaced cmd cw)

theorem step_linesFollowTrace {s t : State} (h : step s = .next t) : LinesFollowTrace s t := by
  have parts := LinesFollowTrace.closedUnderParts
  cases step_cases h with
  | look _ ht | pastEnd _ _ _ _ ht => exact ht ▸ .of_noEvent rfl rfl
  | start _ ht => exact ht ▸ .of_oneEvent .start rfl rfl
  | statement _ _ c _ _ ht => exact ht ▸ (LinesFollowTrace.of_act c s).trans (parts.rel_moveTo _ _)
  | sample _ _ _ _ _ ht => exact ht ▸ (LinesFollowTrace.of_pollSample s).trans (parts.rel_moveTo _ _)
  | surrender _ _ _ ht => exact ht ▸ (LinesFollowTrace.of_pollSample s).trans (parts.rel_abandonSession _)
  | frame _ _ d i _ ht => exact ht ▸ xfer_after d i (goTo .s8 s) ▸ (parts.rel_goTo .s8 s).trans (parts.rel_xfer d i _)

/-! ### The statements that move SDI and SII -/

/-- The statements that write SDI and SII (R135). -/
def movesData : Stmt → Bool
  | .group _ _ | .drive => true
  | _ => false

/-- From a bus like `b` on, the code writes SDI and SII only while the clock is low. -/
def movesWhileLow : Bus → List Stmt → Bool
  | _, [] => true
  | b, c :: cs => (!movesData c || !b.clock) && movesWhileLow (b.after c) cs

theorem movesWhileLow_append (xs ys : List Stmt) : ∀ b,
    movesWhileLow b (xs ++ ys) = (movesWhileLow b xs && movesWhileLow (xs.foldl Bus.after b) ys) := by
  induction xs with
  | nil => exact fun _ => rfl
  | cons c xs ih => exact fun b => by simp only [List.cons_append, movesWhileLow, ih, List.foldl_cons, Bool.and_assoc]

theorem framesCode_movesWhileLow (p : Params) (l : List (Byte × Byte)) : movesWhileLow Bus.rest (framesCode p l) = true := by
  induction l with
  | nil => rfl
  | cons x l ih =>
    have hx : movesWhileLow Bus.rest (frameCode p x.1 x.2) = true := rfl
    rw [framesCode, List.flatMap_cons, movesWhileLow_append, hx, frameCode_bus]
    exact ih

theorem stageCode_movesWhileLow (p : Params) (e : Descriptor) (g : Stage) (hg : ∀ q, g ≠ .own q) :
    movesWhileLow Bus.rest (stageCode p e g) = true := by
  have poll : movesWhileLow Bus.rest (pollEntry p) = true := by
    unfold pollEntry
    cases p.pollLimit <;> rfl
  have still {c : Stmt} (cs : List Stmt) (hb : Bus.rest.after c = Bus.rest) (hc : movesData c = false) :
      movesWhileLow Bus.rest (c :: cs) = movesWhileLow Bus.rest cs := by
    simp [movesWhileLow, hb, hc]
  cases g with
  | own q => exact absurd rfl (hg q)
  | strobe k =>
    rw [stageCode, still _ rfl rfl, movesWhileLow_append, strobeCode, framesCode_movesWhileLow, framesCode_bus, poll]
    rfl
  | finish =>
    rw [stageCode, movesWhileLow_append, finishCode, framesCode_movesWhileLow, framesCode_bus, poll]
    rfl
  | readBack =>
    rw [stageCode, readBackCode, movesWhileLow_append, readCode, framesCode_movesWhileLow, framesCode_bus]
    rfl
  | readEntry =>
    have keep (n : Fin 3) : Bus.rest.after (.keepSignature n) = Bus.rest := rfl
    simp [stageCode, signatureCode, signatureByteCode, movesWhileLow_append, framesCode_movesWhileLow, framesCode_bus, keep, movesWhileLow,
      movesData]
  | testEntry | compareEntry | testFound | testExt | skipExt | noMatch | settle => rfl

theorem clock_low_of_movesData {c : Stmt} (hc : movesData c = true) : ∀ (cs : List Stmt) (b : Bus) (n : Nat),
    movesWhileLow b cs = true → cs[n]? = some c → ((cs.take n).foldl Bus.after b).clock = false := by
  intro cs
  induction cs with
  | nil => exact fun _ _ _ h => nomatch h
  | cons c' cs ih =>
    intro b n hlow hn
    obtain ⟨hhead, htail⟩ := (Bool.and_eq_true _ _).mp hlow
    cases n with
    | zero =>
      cases hn
      simpa [hc] using hhead
    | succ n => exact ih _ n htail hn

/-- A statement that writes the two data lines leaves the clock alone. -/
theorem act_clock {c : Stmt} (hc : movesData c = true) (hw : isWorkStmt c = true) (s : State) :
    (c.act s).lines.lvl.sci = s.lines.lvl.sci := by
  cases c with
  | group dirs lvls =>
    obtain ⟨rfl, rfl⟩ : dirs = [] ∧ lvls = [(.sdi, false), (.sii, false)] := by simpa [isWorkStmt, latch] using hw
    rfl
  | drive => rfl
  | _ => cases hc

/-- No other statement of S7's work writes the two data lines. -/
theorem act_data {c : Stmt} (hc : movesData c = false) (hw : isWorkStmt c = true) (s : State) :
    ((c.act s).lines.lvl.sdi, (c.act s).lines.lvl.sii) = (s.lines.lvl.sdi, s.lines.lvl.sii) := by
  have same {t : State} (h : t.lines = s.lines) : (t.lines.lvl.sdi, t.lines.lvl.sii) = (s.lines.lvl.sdi, s.lines.lvl.sii) := by rw [h]
  cases c with
  | group | drive => cases hc
  | level l v =>
    obtain rfl : l = .sci := by simpa [isWorkStmt] using hw
    rfl
  | testEntry => exact same (testSentinel_lines s)
  | compareEntry => exact same (compareSignature_lines s)
  | judge k => exact same (judge_lines k s)
  | direction | state | publish => cases hw
  | _ => rfl

/-! ### The lines of a session -/

/-- S1's writes have been made: the position fixes the lines (R203), or the session is over and has left them (R236). -/
def LinesFixed (s : State) : Prop := beforeFirstWrites s.seq = false ∨ (s.seq = .due .idle ∧ s.done = true)

/-- The lines of one row of R203: no high voltage, or the supply on. -/
def RowLines (ls : Lines) : Prop := ∃ sdo rst vcc, ls = sessionLines sdo rst vcc ∧ (rst = true ∨ vcc = true)

theorem rowLines_of_stepLines {p : SessionStep} {n : Nat} {ls : Lines} (h : stepLines p n = some ls) : RowLines ls := by
  unfold stepLines at h
  split at h <;> cases h <;> exact ⟨_, _, _, rfl, by decide⟩

theorem stepLines_eq_none {p : SessionStep} {n : Nat} (h : stepLines p n = none) : p = .idle ∨ (p = .s1 ∧ n = 0) := by
  unfold stepLines at h
  split at h
  · exact .inl rfl
  · exact .inr ⟨rfl, rfl⟩
  all_goals cases h

theorem rowLines_of_own {s : State} {p : SessionStep} {n : Nat} (hinv : EngineInv s) (hat : statementAt s.seq = some (.own p, n))
    (hfirst : beforeFirstWrites s.seq = false) : RowLines s.lines := by
  have h := inStep_of_engineInv hinv hat
  cases hrow : stepLines p n with
  | some ls => exact h.lines ls hrow ▸ rowLines_of_stepLines hrow
  | none =>
    obtain rfl | ⟨rfl, rfl⟩ := stepLines_eq_none hrow
    · exact absurd h.inCode (Nat.not_lt_zero n)
    · obtain ⟨hq, -, -⟩ | hq := own_of_statementAt hat <;> rw [hq] at hfirst <;> cases hfirst

/-- In a session the lines are a row of R203, or those of S7's work with the bus as the statements so far leave it. -/
theorem lines_cases {s : State} (hinv : EngineInv s) (hfix : LinesFixed s) :
    RowLines s.lines ∨ ∃ g n, (∀ q, g ≠ .own q) ∧ s.seq = .within g n ∧ OnBus s.lines (busAt s g n) := by
  obtain hfirst | ⟨hq, hdone⟩ := hfix
  · cases hq : s.seq with
    | due p =>
      have hp : p ≠ .idle := by
        rintro rfl
        rw [hq] at hfirst
        cases hfirst
      exact .inl (rowLines_of_own hinv (hq ▸ statementAt_due hp) hfirst)
    | within g n =>
      obtain ⟨p, rfl⟩ | hg := own_or_work g
      · exact .inl (rowLines_of_own (n := n) hinv (by rw [hq]; rfl) hfirst)
      · exact .inr ⟨g, n, hg, rfl, (linesOk_within hg hq).mp hinv.lines⟩
    | polling | placed =>
      have hlines := hinv.lines
      rw [LinesOk, hq] at hlines
      exact .inl ⟨_, _, _, hlines, .inr rfl⟩
  · exact .inl ⟨_, _, _, hinv.afterSession hq hdone, .inl rfl⟩

theorem beforeFirstWrites_within_succ (g : Stage) (n : Nat) : beforeFirstWrites (.within g (n + 1)) = false := by
  cases g with
  | own p => cases p <;> rfl
  | _ => rfl

theorem beforeFirstWrites_of_beginsWork {q : Seq} (h : beginsWork q = true) : beforeFirstWrites q = false := by
  unfold beforeFirstWrites
  split
  · cases h
  · cases h
  · cases h
  · rfl

theorem linesFixed_after_own {s : State} {p : SessionStep} {n : Nat} {c : Stmt} (hc : (sessionCode s.params p)[n]? = some c) :
    LinesFixed (moveTo (nextPosition (.own p) n s) (c.act s)) := by
  unfold nextPosition
  split
  · exact .inl (beforeFirstWrites_within_succ _ n)
  · rename_i hlast
    cases p with
    | idle => cases hc
    | s9 =>
      match n, hc with
      | 0, _ => exact absurd Nat.one_lt_two hlast
      | 1, rfl => exact .inr ⟨rfl, rfl⟩
    | _ => exact .inl rfl

theorem beforeFirstWrites_after_work {s : State} {g : Stage} {n : Nat} (hw : WorkFacts s) (hg : ∀ q, g ≠ .own q)
    (hq : s.seq = .within g n) : beforeFirstWrites (nextPosition g n s) = false := by
  unfold nextPosition
  split
  · exact beforeFirstWrites_within_succ g n
  · by_cases hlast : g = .settle
    · subst hlast
      rfl
    · exact beforeFirstWrites_of_beginsWork (stageExit_beginsWork hg hlast hq hw)

/-- S1's writes once made, the lines stay fixed until the next Start is accepted. -/
theorem step_linesFixed {s t : State} (hinv : EngineInv s) (hfirst : beforeFirstWrites s.seq = false) (h : step s = .next t) :
    LinesFixed t := by
  cases step_cases h with
  | look hq | start hq =>
    rw [hq] at hfirst
    cases hfirst
  | statement g n c hat hc ht =>
    subst ht
    obtain ⟨p, rfl⟩ | hg := own_or_work g
    · exact linesFixed_after_own hc
    · exact .inl (beforeFirstWrites_after_work hinv.work hg (within_of_statementAt hg hat))
  | pastEnd g n hat hn ht => exact absurd (lt_length_of_engineInv hinv hat) (by omega)
  | sample site back q hq hto ht =>
    obtain ⟨k, second, rfl, rfl, -, -⟩ := poll_of_engineInv hinv hq
    exact ht ▸ .inl (beforeFirstWrites_of_beginsWork (beginsWork_of_poll hto))
  | surrender _ _ _ ht | frame _ _ _ _ _ ht => exact ht ▸ .inl rfl

theorem pinsSafe_of_linesFixed {s : State} (hinv : EngineInv s) (hfix : LinesFixed s) : pinsSafe s.lines = true := by
  obtain ⟨sdo, rst, vcc, hls, hpins⟩ | ⟨g, n, -, -, sdi, sii, hls, -⟩ := lines_cases hinv hfix
  · rw [hls]
    obtain rfl | rfl := hpins
    · rfl
    · cases rst <;> rfl
  · rw [hls]
    rfl

/-- Settles O55: before the step and after it the lines are fixed by the position, and no row of R203 has the high voltage without the
supply. -/
theorem highVoltageOnlyOnPoweredTarget : Obligations.HighVoltageOnlyOnPoweredTarget :=
  fun _ _ hinv hfirst h =>
    ⟨pinsSafe_of_linesFixed hinv (.inl hfirst),
      pinsSafe_of_linesFixed (everyStepKeepsInvariant _ _ hinv h) (step_linesFixed hinv hfirst h)⟩

/-! ### SDI and SII in a session -/

theorem data_low_of_rowLines {ls : Lines} (h : RowLines ls) : (ls.lvl.sdi, ls.lvl.sii) = (false, false) := by
  obtain ⟨sdo, rst, vcc, rfl, -⟩ := h
  rfl

/-- Outside S7's work, and at the beginning of each of its stages, SDI and SII are low. -/
theorem data_low {s : State} (hinv : EngineInv s) (hfix : LinesFixed s)
    (hq : ∀ g n, s.seq = .within g n → (∀ q, g ≠ .own q) → n = 0) : (s.lines.lvl.sdi, s.lines.lvl.sii) = (false, false) := by
  obtain hrow | ⟨g, n, hg, hseq, hbus⟩ := lines_cases hinv hfix
  · exact data_low_of_rowLines hrow
  · obtain rfl := hq g n hseq hg
    rw [busAt_zero, onBus_rest_iff] at hbus
    rw [hbus]
    rfl

/-- A statement of S7's work that moves SDI or SII finds the clock low and leaves it so (R135). -/
theorem clock_low_of_move {s : State} {g : Stage} {n : Nat} {c : Stmt} (hg : ∀ q, g ≠ .own q) (hbus : OnBus s.lines (busAt s g n))
    (hc : (stageCode s.params s.desc g)[n]? = some c)
    (hmove : ((c.act s).lines.lvl.sdi, (c.act s).lines.lvl.sii) ≠ (s.lines.lvl.sdi, s.lines.lvl.sii)) :
    s.lines.lvl.sci = false ∧ (c.act s).lines.lvl.sci = false := by
  have hstmt : isWorkStmt c = true := List.all_eq_true.mp (stageCode_isWorkStmt _ _ g hg) c (List.mem_of_getElem? hc)
  have hdata : movesData c = true := by
    by_contra h
    exact hmove (act_data (by simpa using h) hstmt s)
  have hlow : (busAt s g n).clock = false := clock_low_of_movesData hdata _ _ n (stageCode_movesWhileLow _ _ g hg) hc
  obtain ⟨sdi, sii, hls, -⟩ := hbus
  have hsci : s.lines.lvl.sci = false := by
    rw [hls, hlow]
    rfl
  exact ⟨hsci, (act_clock hdata hstmt s).trans hsci⟩

/-- Between the statements of a session step's own SDI and SII do not move. -/
theorem data_low_after_own {s : State} {p : SessionStep} {n : Nat} {c : Stmt}
    (hinv : EngineInv (moveTo (nextPosition (.own p) n s) (c.act s))) (hc : (sessionCode s.params p)[n]? = some c) :
    ((c.act s).lines.lvl.sdi, (c.act s).lines.lvl.sii) = (false, false) := by
  refine data_low (s := moveTo (nextPosition (.own p) n s) (c.act s)) hinv (linesFixed_after_own hc) fun g m hq hg => ?_
  rw [moveTo_seq, nextPosition] at hq
  split at hq
  · cases hq
    exact absurd rfl (hg p)
  · cases p <;> cases hq
    rfl

/-- Settles O48: a statement is one event at most, and those that move SDI or SII all stand in S7's work, where the clock is low before
them. -/
theorem stepIsOneStatement : Obligations.StepIsOneStatement := by
  intro s t hplaced h
  constructor
  · obtain ⟨es, hadd, hlines⟩ := step_linesFollowTrace h
    refine ⟨es, hadd, ?_, hlines⟩
    have hlen := step_trace_length hplaced h
    rw [hadd, List.length_append, List.length_reverse] at hlen
    omega
  · intro hinv hfirst hmove
    have hinv' := everyStepKeepsInvariant s t hinv h
    cases step_cases h with
    | look hq | start hq =>
      rw [hq] at hfirst
      cases hfirst
    | statement g n c hat hc ht =>
      subst ht
      obtain ⟨p, rfl⟩ | hg := own_or_work g
      · exact absurd ((data_low_after_own hinv' hc).trans (data_low_of_rowLines (rowLines_of_own hinv hat hfirst)).symm) hmove
      · have hq := within_of_statementAt hg hat
        exact ⟨st_of_within hinv hg hq, clock_low_of_move hg ((linesOk_within hg hq).mp hinv.lines) hc hmove⟩
    | pastEnd g n hat hn ht => exact absurd (lt_length_of_engineInv hinv hat) (by omega)
    | sample site back q hq hto ht =>
      have hl : t.lines = s.lines := by rw [ht, moveTo_lines, pollSample_lines]
      exact absurd (by rw [hl]) hmove
    | surrender site back hq ht =>
      have hl : t.lines = s.lines := by rw [ht, abandonSession_lines, pollSample_lines]
      exact absurd (by rw [hl]) hmove
    | frame cmd cw _ _ hq => exact absurd hq (hplaced cmd cw)

end Sys2Proof.Proofs
end

section
/-! PROOF. The encoding family (spec/30_encoding.md R94 to R99): frames and bus sequences read back as the operations they came from, the
one word the reader refuses, and a byte and its 11-slot line pattern. -/

namespace Sys2Proof.Proofs

open Sys2Proof.Machine Sys2Proof.Safety Sys2Proof.Claims Sys2Proof.Laws

/-! ### One frame -/

/-- Under its own loaded command a role's two bytes fit no row before its own (R95, R98). -/
theorem frameRole_frameBytes {i : Instr} {d ins : Byte} (hwf : i.wellFormed = true) (hx : ∀ d ins, i ≠ .xfer d ins)
    (hb : frameBytes i = some (d, ins)) : frameRole (roleCommand i) d ins = i := by
  have index : ∀ n : BitVec 2, (Instr.ldaddr n).wellFormed = true → frameRole .signature (n.setWidth 8) 0x0C = .ldaddr n := by decide
  cases i with
  | xfer d ins => exact absurd rfl (hx d ins)
  | ldaddr n =>
    cases hb
    exact index n hwf
  | ldcmdSig | sigsetup | sigread | ldcmdWf | lddata | wfLA | wfLB | wfHA | wfHB | wfEA | wfEB | ldcmdNop | ldcmdRf
  | rfLA | rfLB | rfHA | rfHB | rfEA | rfEB =>
    cases hb
    rfl
  | _ => cases hb

theorem decode_of_wellFormed {cmd : LoadedCommand} {d ins : Byte} (h : (frameRole cmd d ins).wellFormed = true) :
    decode cmd (commandWord d ins) = .ok (frameRole cmd d ins) := by
  rw [decode, dataByte_commandWord, insByte_commandWord, if_pos h]

theorem decode_error_iff (cmd : LoadedCommand) (cw : CommandWord) (e : DecodeError) :
    decode cmd cw = .error e ↔ e = .reservedIndex ∧ (frameRole cmd (dataByte cw) (insByte cw)).wellFormed = false := by
  rw [decode]
  generalize frameRole cmd (dataByte cw) (insByte cw) = i
  cases hwf : i.wellFormed with
  | true => exact ⟨nofun, fun h => nomatch h.2⟩
  | false => exact ⟨fun h => by cases h; exact ⟨rfl, rfl⟩, fun h => h.1 ▸ rfl⟩

/-- A role is read back from its own word (R98). -/
theorem decode_frameWord {i : Instr} {cw : CommandWord} (hwf : i.wellFormed = true) (hx : ∀ d ins, i ≠ .xfer d ins)
    (hw : frameWord i = some cw) : decode (roleCommand i) cw = .ok i := by
  obtain ⟨⟨d, ins⟩, hb, rfl⟩ := Option.map_eq_some_iff.mp hw
  have hrole := frameRole_frameBytes hwf hx hb
  exact (decode_of_wellFormed (by rwa [hrole])).trans (congrArg _ hrole)

/-- The only operation outside its contract that is a frame is LDADDR with index 3 (R99 (a)). -/
theorem frameBytes_of_illFormed {i : Instr} {d ins : Byte} (hwf : i.wellFormed = false) (hb : frameBytes i = some (d, ins)) :
    d = 0x03 ∧ ins = 0x0C := by
  have index : ∀ n : BitVec 2, (Instr.ldaddr n).wellFormed = false → n = 3 := by decide
  cases i with
  | ldaddr n =>
    cases hb
    exact ⟨by rw [index n hwf]; rfl, rfl⟩
  | rdsig => cases hb
  | _ => cases hwf

/-- A frame's role is outside its contract for one frame under one loaded command (R99 (a)). -/
theorem frameRole_illFormed_iff (cmd : LoadedCommand) (d ins : Byte) :
    (frameRole cmd d ins).wellFormed = false ↔ cmd = .signature ∧ d = 0x03 ∧ ins = 0x0C := by
  constructor
  · intro h
    obtain ⟨rfl, rfl⟩ := frameBytes_of_illFormed h (frameBytes_frameRole cmd d ins)
    cases cmd with
    | signature => exact ⟨rfl, rfl, rfl⟩
    | idle | writeFuse | readFuse => cases h
  · rintro ⟨rfl, rfl, rfl⟩
    rfl

/-- Settles O2: a role fits its own row; any other frame but the reserved one has a role within its contract, which sends its bytes. -/
theorem frameWordRoundTrip : Obligations.FrameWordRoundTrip := by
  refine ⟨fun i cw => decode_frameWord, fun cmd d ins hres => ?_⟩
  have hwf : (frameRole cmd d ins).wellFormed = true := by
    rwa [← frameRole_illFormed_iff, Bool.not_eq_false] at hres
  exact ⟨frameRole cmd d ins, decode_of_wellFormed hwf, frameBytes_frameRole cmd d ins⟩

/-- Settles O4: the reader refuses a word whose role is outside its contract. -/
theorem decodeRefusesOnlyReservedIndex : Obligations.DecodeRefusesOnlyReservedIndex := by
  intro cmd cw e
  have hword : cw = 0x0C03 ↔ dataByte cw = 0x03 ∧ insByte cw = 0x0C := by
    constructor
    · rintro rfl
      exact ⟨rfl, rfl⟩
    · rintro ⟨hd, hi⟩
      rw [← commandWord_bytes cw, hd, hi]
      rfl
  rw [decode_error_iff, frameRole_illFormed_iff, hword]

/-- Settles O1: the reader, run on each word. -/
theorem tableWordsRead : Obligations.TableWordsRead := ⟨rfl, rfl, rfl, rfl, rfl, rfl, rfl, rfl, rfl⟩

/-! ### Sequences of frames and POLLs -/

/-- A sequence read in two parts: the second under the command that the first leaves loaded (R98). -/
theorem decodeItems_append {xs ys : List BusItem} {js : List Instr} : ∀ {cmd : LoadedCommand} {is : List Instr},
    decodeItems cmd xs = .ok is → decodeItems (is.foldl loadedAfter cmd) ys = .ok js →
    decodeItems cmd (xs ++ ys) = .ok (is ++ js) := by
  induction xs with
  | nil =>
    intro cmd is hx hy
    cases hx
    exact hy
  | cons b xs ih =>
    intro cmd is hx hy
    simp only [decodeItems, List.cons_append] at hx ⊢
    split at hx
    · cases hx
    split at hx
    · cases hx
    · rename_i i hi _ is' his
      cases hx
      rw [ih his hy]
      rfl

/-- The two strobe frames of a fuse write (R96). -/
def strobeLeaves : Kind → List Instr
  | .low => [.wfLA, .wfLB]
  | .high => [.wfHA, .wfHB]
  | .ext => [.wfEA, .wfEB]

/-- The frames and POLLs of a fuse write (R97). -/
def writeLeaves (k : Kind) (v : Byte) : List Instr := .ldcmdWf :: .lddata v :: (strobeLeaves k ++ [.poll, .ldcmdNop, .poll])

/-- The frames of a fuse read (R97). -/
def readLeaves : Kind → List Instr
  | .low => [.ldcmdRf, .rfLA, .rfLB]
  | .high => [.ldcmdRf, .rfHA, .rfHB]
  | .ext => [.ldcmdRf, .rfEA, .rfEB]

theorem decodeItems_frame {i : Instr} {cw : CommandWord} (hwf : i.wellFormed = true) (hx : ∀ d ins, i ≠ .xfer d ins)
    (hw : frameWord i = some cw) : decodeItems (roleCommand i) [.frame cw] = .ok [i] := by
  simp only [decodeItems, decodeItem, decode_frameWord hwf hx hw]

theorem decodeItems_strobe (k : Kind) :
    decodeItems .writeFuse [.frame (commandWord 0x00 k.writeA), .frame (commandWord 0x00 k.writeB)] = .ok (strobeLeaves k) := by
  cases k <;> rfl

theorem decodeItems_writeSequence (k : Kind) (v : Byte) : decodeItems .idle (writeSequence k v) = .ok (writeLeaves k v) := by
  have hload : decodeItems .idle [.frame (commandWord 0x40 0x4C)] = .ok [.ldcmdWf] := rfl
  have hdata : decodeItems .writeFuse [.frame (commandWord v 0x2C)] = .ok [.lddata v] :=
    decodeItems_frame (i := .lddata v) rfl nofun rfl
  have hfinish : decodeItems .writeFuse [.poll, .frame (commandWord 0x00 0x4C), .poll] = .ok [.poll, .ldcmdNop, .poll] := rfl
  have hkeep : (strobeLeaves k).foldl loadedAfter .writeFuse = .writeFuse := by cases k <;> rfl
  rw [← hkeep] at hfinish
  exact decodeItems_append hload (decodeItems_append hdata (decodeItems_append (decodeItems_strobe k) hfinish))

theorem decodeItems_readSequence (k : Kind) : decodeItems .idle (readSequence k) = .ok (readLeaves k) := by
  cases k <;> rfl

/-- A VERIFY on the bus: a fuse write, which leaves no command loaded, and a fuse read (R97). -/
theorem decodeItems_verify (k : Kind) (v : Byte) :
    decodeItems .idle (writeSequence k v ++ readSequence k) = .ok (writeLeaves k v ++ readLeaves k) := by
  have hidle : (writeLeaves k v).foldl loadedAfter .idle = .idle := by cases k <;> rfl
  refine decodeItems_append (decodeItems_writeSequence k v) ?_
  rw [hidle]
  exact decodeItems_readSequence k

theorem decodeSequence_of_decodeItems {cmd : LoadedCommand} {items : List BusItem} {is : List Instr}
    (h : decodeItems cmd items = .ok is) : decodeSequence cmd items = groupLeaves is := by
  simp only [decodeSequence, h]

/-- Settles O3: a frame role by its word, a fuse operation by the parts its sequence is made of, RDSIG index by index. -/
theorem busSequenceRoundTrip : Obligations.BusSequenceRoundTrip := by
  intro i items hwf hx he
  cases i with
  | xfer d ins => exact absurd rfl (hx d ins)
  | ldcmdSig | ldaddr | sigsetup | sigread | ldcmdWf | lddata | wfLA | wfLB | wfHA | wfHB | wfEA | wfEB | ldcmdNop | ldcmdRf
  | rfLA | rfLB | rfHA | rfHB | rfEA | rfEB =>
    cases he
    exact decodeSequence_of_decodeItems (decodeItems_frame hwf hx rfl)
  | rdsig n =>
    have index : ∀ n : Byte, (Instr.rdsig n).wellFormed = true → n = 0 ∨ n = 1 ∨ n = 2 := by decide
    cases he
    obtain rfl | rfl | rfl := index n hwf <;> rfl
  | poll =>
    cases he
    rfl
  | wrfuseL | wrfuseH | wrfuseE =>
    cases he
    exact decodeSequence_of_decodeItems (decodeItems_writeSequence _ _)
  | rdfuseL | rdfuseH | rdfuseE =>
    cases he
    exact decodeSequence_of_decodeItems (decodeItems_readSequence _)
  | verifyL | verifyH | verifyE =>
    cases he
    exact decodeSequence_of_decodeItems (decodeItems_verify _ _)
  | pulse | matchDevice | start | s1 | s2 | s3 | s4 | s5 | s6 | s7 | s8 | s9 => cases he

/-! ### The line pattern of a byte -/

/-- Each further bit shifts the ones before it up (R93). -/
theorem packBits_concat (bs : List Bool) (b : Bool) :
    packBits (bs ++ [b]) = packBits bs <<< 1 ||| (BitVec.ofBool b).setWidth 8 := List.foldl_append

/-- The last of the bits packed is bit 0, the one before it bit 1, and so on (R93). -/
theorem packBits_getLsbD (bs : List Bool) : ∀ {k : Nat}, k < 8 → (packBits bs).getLsbD k = bs.reverse[k]?.getD false := by
  induction bs using List.reverseRecOn with
  | nil => exact fun _ => by simp [packBits]
  | append_singleton bs b ih =>
    intro k hk
    rw [packBits_concat, List.reverse_append, List.reverse_singleton, List.singleton_append]
    cases k with
    | zero => simp
    | succ k =>
      rw [List.getElem?_cons_succ, ← ih (Nat.lt_of_succ_lt hk)]
      simp [hk, BitVec.getLsbD_eq_getElem (Nat.lt_of_succ_lt hk)]

theorem packBits_bitsMsbFirst (b : Byte) : packBits (bitsMsbFirst b) = b := by
  refine BitVec.eq_of_getLsbD_eq fun k hk => ?_
  rw [packBits_getLsbD _ hk]
  interval_cases k <;> rfl

/-- Settles O5: framed by construction, and packing is the inverse of taking the bits. -/
theorem linePatternRoundTrip : Obligations.LinePatternRoundTrip :=
  fun b => ⟨rfl, rfl, rfl, rfl, congrArg some (packBits_bitsMsbFirst b)⟩

end Sys2Proof.Proofs
end

section
/-! PROOF. One frame on the bus (spec/30_encoding.md R90 to R95, spec/40_bit_and_frame.md R131): the roles that send it, the levels it
latches and the response it brings; and the frame the host places (log entry 8). -/

namespace Sys2Proof.Proofs

open Sys2Proof.Machine Sys2Proof.Safety Sys2Proof.Claims Sys2Proof.Laws

/-! ### The operations that are one frame -/

/-- An operation within its contract that is one frame sends it (R95, R131). -/
theorem exec_frame {i : Instr} {d ins : Byte} {s : State} (hb : frameBytes i = some (d, ins)) (hwf : i.wellFormed = true)
    (h : Readable s) : exec i s = .next (afterFrame d ins s) := by
  have sent (d ins : Byte) : readingSdo (xfer d ins) s = .next (afterFrame d ins s) := by
    rw [readingSdo_readable _ s h, xfer_after]
  cases i with
  | ldaddr n =>
    cases hb
    rw [exec, execLdaddr, if_pos (of_decide_eq_true hwf)]
    exact sent _ _
  | ldcmdSig | sigsetup | sigread | ldcmdWf | lddata | wfLA | wfLB | wfHA | wfHB | wfEA | wfEB | ldcmdNop | ldcmdRf
  | rfLA | rfLB | rfHA | rfHB | rfEA | rfEB | xfer =>
    cases hb
    exact sent _ _
  | _ => cases hb

/-- Settles O8: XFER is the frame of its two operands. -/
theorem transferResult : Obligations.TransferResult := fun _ _ _ h => exec_frame rfl rfl h

/-- Settles O9: each role is the frame of its row's two bytes. -/
theorem frameRolesSendTheirBytes : Obligations.FrameRolesSendTheirBytes := fun _ h =>
  ⟨exec_frame rfl rfl h, exec_frame rfl rfl h, exec_frame rfl rfl h, exec_frame rfl rfl h, exec_frame rfl rfl h, exec_frame rfl rfl h,
    exec_frame rfl rfl h, fun _ => exec_frame rfl rfl h, exec_frame rfl rfl h, exec_frame rfl rfl h, exec_frame rfl rfl h,
    exec_frame rfl rfl h, exec_frame rfl rfl h, exec_frame rfl rfl h, exec_frame rfl rfl h, exec_frame rfl rfl h, exec_frame rfl rfl h,
    exec_frame rfl rfl h, exec_frame rfl rfl h, exec_frame rfl rfl h, exec_frame rfl rfl h, exec_frame rfl rfl h⟩

/-! ### The levels at the rising edges -/

/-- A pulse from a low clock is one rising edge, and leaves the lines as they were (R130). -/
theorem latchedPairs_pulse {ls : Lines} (h : ls.lvl.sci = false) (p : Params) (es : List Event) :
    latchedPairs ls (pulseEvents p ++ es) = (ls.lvl.sdi, ls.lvl.sii) :: latchedPairs ls es := by
  obtain ⟨dir, sci, sdi, sii, sdo, rst, vcc⟩ := ls
  cases h
  rfl

/-- The lines with SDI and SII at these levels. -/
def withData (d i : Bool) (ls : Lines) : Lines := { ls with lvl := { ls.lvl with sdi := d, sii := i } }

@[simp] theorem withData_sci (d i : Bool) (ls : Lines) : (withData d i ls).lvl.sci = ls.lvl.sci := rfl

/-- The two data lines move under a low clock: no edge (R135). -/
theorem latchedPairs_latch {ls : Lines} (h : ls.lvl.sci = false) (d i : Bool) (es : List Event) :
    latchedPairs ls (latchEvent d i :: es) = latchedPairs (withData d i ls) es := by
  simp [latchedPairs, latchEvent, Event.apply, PerLine.setAll, PerLine.set, withData, h]

/-- A slot latches the levels it drives; a sample before them is no edge (R91). -/
theorem latchedPairs_dataSlot {ls : Lines} (h : ls.lvl.sci = false) (p : Params) (b d i : Bool) (es : List Event) :
    latchedPairs ls (dataSlotEvents p b d i ++ es) = (d, i) :: latchedPairs (withData d i ls) es := by
  have hread : latchedPairs ls (dataSlotEvents p b d i ++ es) = latchedPairs ls (latchEvent d i :: (pulseEvents p ++ es)) := by
    simp [dataSlotEvents, latchedPairs, Event.apply, h]
  rw [hread, latchedPairs_latch h]
  exact latchedPairs_pulse (ls := withData d i ls) h p es

/-- The 11 rising edges of one frame, whatever follows it (R91). -/
theorem latchedPairs_frameEvents {ls : Lines} (h : ls.lvl.sci = false) (p : Params) (d i : Byte) (b : Nat → Bool) (es : List Event) :
    latchedPairs ls (frameEvents p d i b ++ es) =
      (slotPattern d).zip (slotPattern i) ++ latchedPairs (withData false false ls) es := by
  simp only [frameEvents, List.append_assoc, List.cons_append, latchedPairs_latch, latchedPairs_pulse, latchedPairs_dataSlot,
    withData_sci, h]
  rfl

/-- Settles O11: the events XFER adds are those of one frame, slot by slot. -/
theorem transferLatchesPatterns : Obligations.TransferLatchesPatterns := by
  intro d i s h hlow
  refine ⟨_, frameEvents s.params d i s.sample, exec_frame rfl rfl h, rfl, ?_⟩
  have hframe := latchedPairs_frameEvents hlow s.params d i s.sample []
  rwa [List.append_nil, latchedPairs, List.append_nil] at hframe

/-! ### The response -/

theorem byteAt_eq_packBits (s : State) (k : Nat) : byteAt s k = packBits ((List.range 8).map fun j => s.sample (k + j)) := rfl

/-- The first of the eight samples is bit 7, the eighth bit 0 (R93). -/
theorem byteAt_getLsbD (s : State) (k : Nat) {j : Nat} (hj : j < 8) : (byteAt s k).getLsbD (7 - j) = s.sample (k + j) := by
  have hrev : 8 - 1 - (7 - j) = j := by omega
  rw [byteAt_eq_packBits, packBits_getLsbD _ (by omega), List.getElem?_reverse (by simp; omega)]
  simp [hrev, hj]

/-- Settles O12: RSR holds the eight samples of the frame, packed. -/
theorem responseFirstSampleIsTopBit : Obligations.ResponseFirstSampleIsTopBit := by
  refine fun d i s h => ⟨_, exec_frame rfl rfl h, fun j hj => ?_, ?_⟩
  · rw [afterFrame_rsr, byteAt_getLsbD s 0 hj, Nat.zero_add]
  · rfl

/-! ### A placed frame -/

/-- What the host's reader reads is what the trace reader reads under the word's own command (log entries 8, 14). -/
theorem decode_of_decodeTableWord {nbits w : Nat} {i : Instr} (h : decodeTableWord nbits w = some i) :
    decode (standaloneCommand (BitVec.ofNat 16 w)) (BitVec.ofNat 16 w) = .ok i := by
  unfold decodeTableWord at h
  split at h
  · split at h
    · rename_i hi
      cases h
      exact hi
    · cases h
  · cases h

/-- Settles O49: the position the host placed names the operation. -/
theorem placedWordRunsNext : Obligations.PlacedWordRunsNext := by
  intro s w i _ h
  obtain ⟨-, -, -, runsPlaced⟩ := positionsNameOperations
  exact runsPlaced (s.withFetchWord 16 w) _ _ i rfl (decode_of_decodeTableWord h)

end Sys2Proof.Proofs
end

section
/-! PROOF. S7 against the operations it is made of, run alone (spec/30_encoding.md R102, spec/42_fuse.md R184, spec/43_session.md R197): a
VERIFY run alone that ends without a wait leaves the state in which S7 goes on. -/

namespace Sys2Proof.Proofs

open Sys2Proof.Machine Sys2Proof.Safety Sys2Proof.Claims Sys2Proof.Laws

/-! ### Statements and the scan leave the position alone -/

/-- No statement writes the position, for it does the same from any. -/
theorem act_seq (c : Stmt) (s : State) : (c.act s).seq = s.seq := by
  have h := act_moveTo c s.seq s
  rw [moveTo_self s.seq s rfl] at h
  rw [h, moveTo_seq]

theorem perform_seq (cs : List Stmt) : ∀ s, (perform cs s).seq = s.seq := by
  induction cs with
  | nil => exact fun _ => rfl
  | cons c cs ih => exact fun s => (ih (c.act s)).trans (act_seq c s)

theorem scanTable_seq (n : Nat) : ∀ s, (scanTable n s).seq = s.seq := by
  induction n with
  | zero => exact fun _ => rfl
  | succ n ih =>
    intro s
    have hcompare : (compareSignature (readSignature s)).seq = s.seq :=
      (act_seq .compareEntry (readSignature s)).trans (perform_seq (signatureCode s.params) s)
    rw [scanTable]
    split
    · exact act_seq .testEntry s
    split
    · exact hcompare
    · exact (ih _).trans hcompare

theorem matchDevice_seq (s : State) : (matchDevice s).seq = s.seq := (scanTable_seq _ _).trans (perform_seq _ s)

/-! ### A VERIFY that ends without a wait -/

theorem endVerify_desc (k : Kind) (s : State) : (endVerify k s).desc = s.desc := by
  rw [endVerify_eq, setOk_desc]
  rfl

theorem endVerify_seq (k : Kind) (s : State) : (endVerify k s).seq = s.seq := perform_seq _ s

/-- A write answered at once leaves `SEQ` and `DESC` alone (R170). -/
theorem afterWriteAtOnce_keeps (a b v : Byte) (s : State) :
    (afterWriteAtOnce a b v s).seq = s.seq ∧ (afterWriteAtOnce a b v s).desc = s.desc := by
  have hsample (t : State) : (afterSample true 1 t).seq = t.seq ∧ (afterSample true 1 t).desc = t.desc := ⟨rfl, rfl⟩
  have hframe (t : State) : (afterFrame 0x00 0x4C t).seq = t.seq ∧ (afterFrame 0x00 0x4C t).desc = t.desc := ⟨rfl, rfl⟩
  obtain ⟨-, -, hseq, -, -, -, hdesc, -⟩ := afterFrames_keeps [(0x40, 0x4C), (v, 0x2C), (0x00, a), (0x00, b)] s
  simp only [afterWriteAtOnce, afterFifthFrame, afterStrobe, hsample, hframe, hseq, hdesc, and_self]

/-- A POLL that samples 0 first does not leave the sequencer before S7: it waits, or goes on at S8 (R133, R134). -/
theorem afterFirstLow_seq_ne (site : PollSite) (back : SessionStep) (s : State) : (afterFirstLow site back s).seq ≠ .due .s7 := by
  unfold afterFirstLow
  split <;> exact nofun

/-- A write after which the sequencer stands before S7 has had both of its POLLs answered at once (R170). -/
theorem pollsReady_of_writeFuse {o : WriteOwner} {k : Kind} {v : Byte} {back : SessionStep} {f : State → State} {s : State}
    (h : (writeFuse o k v back f s).seq = .due .s7) : PollsReady s 0 := by
  by_cases hfirst : s.sample 32 = true
  · by_cases hsecond : s.sample 41 = true
    · exact ⟨hfirst, hsecond⟩
    · rw [writeFuse_secondLow o k v back f s hfirst (by simpa using hsecond)] at h
      exact absurd h (afterFirstLow_seq_ne _ _ _)
  · rw [writeFuse_firstLow o k v back f s (by simpa using hfirst)] at h
    exact absurd h (afterFirstLow_seq_ne _ _ _)

/-- A VERIFY run alone before S7 that ends without a wait: its POLLs were answered at once, and what it comes to (R178). -/
theorem verifyAlone_ends {k : Kind} {v : Byte} {s t : State} (ht : t = verifyAlone k v s) (hq : s.seq = .due .s7)
    (hend : t.seq = .due .s7) : PollsReady (beginVerify k v s) 0 ∧
      t = endVerify k (afterWriteAtOnce (writeByteA k) (writeByteB k) v (beginVerify k v s)) := by
  rw [ht, verifyAlone] at hend
  have hready : PollsReady (beginVerify k v s) 0 := pollsReady_of_writeFuse hend
  have hseq : (endVerify k (afterWriteAtOnce (writeByteA k) (writeByteB k) v (beginVerify k v s))).seq = .due .s7 := by
    rw [endVerify_seq, (afterWriteAtOnce_keeps _ _ _ _).1, beginVerify_seq, hq]
  refine ⟨hready, ?_⟩
  rw [ht, verifyAlone, writeFuse_ready _ _ _ _ _ _ hready, hq, endVerifyAlone, goTo, Seq.back, moveTo_self _ _ hseq]

theorem verifyAlone_desc {k : Kind} {v : Byte} {s t : State} (ht : t = verifyAlone k v s) (hq : s.seq = .due .s7)
    (hend : t.seq = .due .s7) : t.desc = s.desc := by
  rw [(verifyAlone_ends ht hq hend).2, endVerify_desc, (afterWriteAtOnce_keeps _ _ _ _).2, beginVerify_desc]

/-- S7 goes on from a VERIFY as from the same VERIFY run alone, where that one ends without a wait (R184, R197). -/
theorem verifyInSession_eq {k : Kind} {s t : State} (next : State → State) (ht : t = verifyAlone k (factoryValue s.desc k) s)
    (hq : s.seq = .due .s7) (hend : t.seq = .due .s7) : verifyInSession k (fun u => next (endVerify k u)) s = next t := by
  obtain ⟨hready, halone⟩ := verifyAlone_ends ht hq hend
  rw [verifyInSession, writeFuse_ready _ _ _ _ _ _ hready, halone]

/-! ### S7 -/

/-- An operation that begins with MATCH runs where it may read SDO or has nothing to read. -/
theorem readingIfScanned_allowed (f : State → State) {s : State} (h : Readable s ∨ scanReads s = false) :
    readingIfScanned f s = .next (f s) := by
  obtain h | h := h
  · exact readingIfScanned_readable f s h
  · rw [readingIfScanned, h]

/-- Where MATCH may run, S7 runs, from MATCH on (R197). -/
theorem exec_s7_of_match {s a : State} (h : exec .matchDevice { s with st := .operating } = .next a) :
    exec .s7 s = .next (operateFound a) ∧ a.seq = s.seq := by
  obtain ⟨hread, rfl⟩ := readingIfScanned_next h
  exact ⟨readingIfScanned_allowed operate hread, matchDevice_seq _⟩

/-- S7 once the high fuse is verified: the extended fuse is skipped, or verified as alone (R182, R197). -/
theorem endsFrom_operateExt {c : State} (hq : c.seq = .due .s7) : EndsFrom c (.next (operateExt c)) := by
  refine ⟨fun hext => ?_, fun d hext hd hend => ?_⟩
  · have hskip : hasExtFuse c.desc = false := by simp [hasExtFuse, hext]
    rw [operateExt, hskip]
    rfl
  · have hfuse : hasExtFuse c.desc = true := by simpa [hasExtFuse] using hext
    have hrun : exec (.verifyE c.desc.ext) c = readingSdo (verifyAlone .ext c.desc.ext) c := by
      simp [exec, execVerifyE, extSkipped, hfuse]
    rw [hrun] at hd
    rw [operateExt, if_pos hfuse]
    exact congrArg _ (verifyInSession_eq (k := .ext) endOperate (readingSdo_next hd).2 hq hend)

/-- Settles O43: S7 is MATCH, then VERIFY.L and VERIFY.H as they run alone, then the extended fuse and the outcome. -/
theorem operateIsMatchThenVerifies : Obligations.OperateIsMatchThenVerifies := by
  intro s a b c hq ha hfound hb hbq hc hcq
  obtain ⟨hs7, haq⟩ := exec_s7_of_match ha
  obtain ⟨-, hb⟩ := readingSdo_next hb
  obtain ⟨-, hc⟩ := readingSdo_next hc
  rw [hq] at haq
  rw [← verifyAlone_desc hb haq hbq] at hc
  have hlow : verifyInSession .low operateAfterLow a = verifyInSession .high operateAfterHigh b :=
    verifyInSession_eq (k := .low) (verifyInSession .high operateAfterHigh) hb haq hbq
  have hhigh : verifyInSession .high operateAfterHigh b = operateExt c := verifyInSession_eq (k := .high) operateExt hc hbq hcq
  rw [hs7, operateFound, if_pos hfound, hlow, hhigh]
  exact endsFrom_operateExt hcq

end Sys2Proof.Proofs
end

section
/-! PROOF. PULSE, the events of a frame, and POLL step by step (spec/40_bit_and_frame.md R130 to R134): which sample ends a POLL, which
one keeps the sequencer in it, and how long that may go on. -/

namespace Sys2Proof.Proofs

open Sys2Proof.Machine Sys2Proof.Safety Sys2Proof.Claims Sys2Proof.Laws

/-! ### PULSE -/

theorem pulseAllowed_iff (s : State) : pulseAllowed s = true ↔ s.lines.dir.sci = .output ∧ s.lines.lvl.sci = false := by
  simp [pulseAllowed]

/-- Settles O6: the clock was low, so the pulse leaves every line bit as it was. -/
theorem pulseDrivesClockOnly : Obligations.PulseDrivesClockOnly := by
  intro s hdir hlow
  have hlines : { s.lines with lvl := { s.lines.lvl with sci := false } } = s.lines := by rw [← hlow]
  show execPulse s = _
  rw [execPulse, (pulseAllowed_iff s).mpr ⟨hdir, hlow⟩]
  refine congrArg Host.Outcome.next ?_
  rw [pulse, pulseCode_perform, hlines]
  rfl

/-- Settles O7: the precondition is checked before the pulse. -/
theorem pulseNeedsLowDrivenClock : Obligations.PulseNeedsLowDrivenClock := by
  intro s h
  have hforbidden : pulseAllowed s = false := by
    rw [Bool.eq_false_iff, Ne, pulseAllowed_iff]
    rintro ⟨hdir, hlow⟩
    rcases h with hinput | hhigh
    · exact hinput hdir
    · exact absurd (hlow.symm.trans hhigh) Bool.false_ne_true
  show execPulse s = _
  rw [execPulse, hforbidden]

/-! ### The events of a frame, counted -/

/-- A frame has 11 pulses, 8 samples and 10 grouped writes, so what is alike in all of each kind is counted so many times (R132). -/
theorem countP_frameEvents {q : Event → Bool} {sampled latched : Bool} (hsample : ∀ b, q (.readLevel .sdo b) = sampled)
    (hlatch : ∀ d i, q (latchEvent d i) = latched) (p : Params) (d i : Byte) (b : Nat → Bool) :
    (frameEvents p d i b).countP q = 11 * (pulseEvents p).countP q + 8 * sampled.toNat + 10 * latched.toNat := by
  have hone (r : Bool) : (if r = true then 1 else 0) = r.toNat := by cases r <;> rfl
  have hslot (x y z : Bool) : (dataSlotEvents p x y z).countP q = (pulseEvents p).countP q + sampled.toNat + latched.toNat := by
    rw [dataSlotEvents, List.countP_cons, List.countP_cons, hsample, hlatch, hone, hone]
    omega
  simp only [frameEvents, List.cons_append, List.countP_cons, List.countP_append, hslot, hlatch, hone]
  omega

/-- Settles O10: XFER adds the events of one frame, which are counted kind by kind. -/
theorem transferCounts : Obligations.TransferCounts := by
  intro d i s hr
  refine ⟨_, _, transferResult d i s hr, rfl, ?_, ?_, ?_, ?_, ?_, ?_⟩
  · exact countP_frameEvents (q := isRise) (fun _ => rfl) (fun _ _ => rfl) _ _ _ _
  · exact countP_frameEvents (q := (· == .setLevel .sci false)) (fun _ => rfl) (fun _ _ => rfl) _ _ _ _
  · refine (countP_frameEvents (q := (· == .waitAtLeast s.params.tSciHigh)) (fun _ => rfl) (fun _ _ => rfl) _ _ _ _).trans ?_
    simp [pulseEvents]
  · exact countP_frameEvents (q := isSample) (fun _ => rfl) (fun _ _ => rfl) _ _ _ _
  · exact countP_frameEvents (q := isGroup) (fun _ => rfl) (fun _ _ => rfl) _ _ _ _
  · rw [← List.countP_true]
    exact countP_frameEvents (q := fun _ => true) (fun _ => rfl) (fun _ _ => rfl) _ _ _ _

/-! ### One sample of a POLL -/

theorem exec_poll_of_readable {s : State} (hr : Readable s) : exec .poll s = .next (pollStep s) := readingSdo_readable pollStep s hr

/-- A POLL run alone while none is in progress begins one. -/
theorem pollStep_of_notPolling {s : State} (h : ∀ site back, s.seq ≠ .polling site back) :
    pollStep s = pollFrom .alone s.seq.back (goTo s.seq.back) s := by
  unfold pollStep
  cases hq : s.seq with
  | polling site back => exact absurd hq (h site back)
  | due p => rfl
  | within g n => rfl
  | placed cmd cw => rfl

/-- The POLL in progress that samples 1 returns. -/
theorem exec_poll_high {s : State} {site : PollSite} {back : SessionStep} (hr : Readable s) (hq : s.seq = .polling site back)
    (h : s.sample 0 = true) : exec .poll s = .next (standing (Machine.afterPoll site back) (afterSample true (s.pcnt + 1) s)) := by
  rw [exec_poll_of_readable hr, pollStep, hq]
  exact congrArg Host.Outcome.next (pollOnce_ready site back _ s h)

/-- The bounded POLL has taken its last sample when the count is the limit. -/
theorem pollExpired_afterSample (b : Bool) (n : Nat) (s : State) :
    pollExpired (afterSample b n s) = decide (s.params.pollLimit = some n) := by
  have hparams : (afterSample b n s).params = s.params := rfl
  have hcount : (afterSample b n s).pcnt = countAfter s n := rfl
  unfold pollExpired
  rw [hparams, hcount, countAfter]
  cases s.params.pollLimit <;> simp [eq_comm, Bool.beq_eq_decide_eq]

/-- The POLL in progress that samples 0 stays where it is, unless that was the last sample it may take (R133, R134). -/
theorem exec_poll_low {s : State} {site : PollSite} {back : SessionStep} (hr : Readable s) (hq : s.seq = .polling site back)
    (h : s.sample 0 = false) : exec .poll s =
      .next (if s.params.pollLimit = some (s.pcnt + 1) then abandoned (afterSample false (s.pcnt + 1) s)
        else afterSample false (s.pcnt + 1) s) := by
  have hstay : moveTo (.polling site back) (afterSample false (s.pcnt + 1) s) = afterSample false (s.pcnt + 1) s := moveTo_self _ _ hq
  have hgive (t : State) : abandonSession t = abandoned t := by
    rw [abandonSession, raise_eq]
    rfl
  rw [exec_poll_of_readable hr, pollStep, hq]
  simp only [pollOnce, h, pollSample_eq, pollExpired_afterSample, hstay, hgive, Bool.false_eq_true, if_false, decide_eq_true_eq]

/-- Settles O14: a POLL begins, and its first sample decides. -/
theorem pollTakesOneSample : Obligations.PollTakesOneSample := by
  intro s hr hq
  rw [exec_poll_of_readable hr, pollStep_of_notPolling hq]
  exact ⟨fun h => congrArg Host.Outcome.next (pollFrom_ready _ _ _ s h), fun h => congrArg Host.Outcome.next (pollFrom_low _ _ _ s h)⟩

/-- Settles O15: where the sequencer goes on is `afterPoll` of each site. -/
theorem waitingPollReturns : Obligations.WaitingPollReturns := fun _ _ hr h =>
  ⟨fun hq => exec_poll_high hr hq h, fun _ _ hq => exec_poll_high hr hq h, fun _ hq => exec_poll_high hr hq h,
    fun _ hq => exec_poll_high hr hq h, fun _ hq => exec_poll_high hr hq h⟩

/-! ### A POLL that goes on -/

theorem afterLows_zero (s : State) : afterLows 0 s = s := by
  cases s
  simp [afterLows, withEvents, withSamplesTaken, countAfter]

theorem afterLows_sample (n : Nat) (s : State) (k : Nat) : (afterLows n s).sample k = s.sample (n + k) := sample_after s _ n k rfl rfl

/-- One low sample more. -/
theorem afterSample_afterLows (n : Nat) (s : State) :
    afterSample false ((afterLows n s).pcnt + 1) (afterLows n s) = afterLows (n + 1) s := by
  have hcount : countAfter (afterLows n s) ((afterLows n s).pcnt + 1) = countAfter s (s.pcnt + (n + 1)) := by
    show (if s.params.pollLimit = none then countAfter s (s.pcnt + n) else countAfter s (s.pcnt + n) + 1) = _
    unfold countAfter
    split <;> rfl
  rw [afterSample, hcount]
  simp [afterLows, withEvents, withSamplesTaken, List.replicate_succ', Nat.add_assoc]

/-- The step of a POLL that has taken `n` low samples and takes another: it goes on, or gives up at the limit. -/
theorem step_afterLows {n : Nat} {s : State} {site : PollSite} {back : SessionStep} (hr : Readable s) (hq : s.seq = .polling site back)
    (h : s.sample n = false) : step (afterLows n s) =
      .next (if s.params.pollLimit = some (s.pcnt + n + 1) then abandoned (afterLows (n + 1) s) else afterLows (n + 1) s) := by
  have hlow : (afterLows n s).sample 0 = false := (afterLows_sample n s 0).trans h
  have hlimit : (afterLows n s).params.pollLimit = some ((afterLows n s).pcnt + 1) ↔ s.params.pollLimit = some (s.pcnt + n + 1) := by
    show s.params.pollLimit = some (countAfter s (s.pcnt + n) + 1) ↔ _
    unfold countAfter
    cases s.params.pollLimit <;> simp
  rw [step_polling (afterLows n s) site back hq, exec_poll_low (s := afterLows n s) hr hq hlow, afterSample_afterLows]
  simp only [hlimit]

/-- Settles O16: by induction on the steps; the last of them samples as the one before it did. -/
theorem unansweredPollWaits : Obligations.UnansweredPollWaits := by
  intro n s site back hr hq
  induction n with
  | zero => exact fun _ _ => congrArg Host.Outcome.next (afterLows_zero s).symm
  | succ n ih =>
    intro hlimit hlow
    have hrun := ih (fun m hm => Nat.lt_of_succ_lt (hlimit m hm)) fun k hk => hlow k (Nat.lt_succ_of_lt hk)
    have hgoes : s.params.pollLimit ≠ some (s.pcnt + n + 1) := fun h => Nat.lt_irrefl _ (hlimit _ h)
    rw [run_add core n 1 _ _ hrun, run_succ 0 _ _ (step_afterLows hr hq (hlow n n.lt_succ_self)), if_neg hgoes]
    rfl

/-- Settles O18: all samples but the last are those of a POLL that waits, and the last one brings the count to the limit. -/
theorem boundedPollGivesUp : Obligations.BoundedPollGivesUp := by
  intro n s site back hr hq hlimit hcount hlow
  obtain ⟨m, rfl⟩ : ∃ m, n = s.pcnt + m + 1 := ⟨n - s.pcnt - 1, by omega⟩
  have hleft : s.pcnt + m + 1 - s.pcnt = m + 1 := by omega
  rw [hleft] at hlow ⊢
  have hbelow (l : Nat) (hl : s.params.pollLimit = some l) : s.pcnt + m < l := by
    cases hlimit.symm.trans hl
    exact Nat.lt_succ_self _
  have hrun := unansweredPollWaits m s site back hr hq hbelow fun k hk => hlow k (Nat.lt_succ_of_lt hk)
  rw [run_add core m 1 _ _ hrun, run_succ 0 _ _ (step_afterLows hr hq (hlow m m.lt_succ_self)), if_pos hlimit]
  rfl

end Sys2Proof.Proofs
end

section
/-! PROOF. A session in the VERIFYs of S7, kind by kind and through every wait (spec/40_bit_and_frame.md R134, spec/42_fuse.md R170, R178,
R182, R184): the positions are those of the sequencer's stages, each with what its statements come to. -/

namespace Sys2Proof.Proofs

open Sys2Proof.Machine Sys2Proof.Safety Sys2Proof.Claims Sys2Proof.Laws

/-- After the second POLL: the read back, the compare, and on to the next kind that applies or to the outcome. -/
theorem reaches_goesOn (k : Kind) {s : State} (hr : Readable s) :
    Reaches (moveTo (.within (.readBack .operate k .s8) 0) s) (goesOn k s) := by
  have hback := reaches_readBack .operate k .s8 s hr
  cases k with
  | low => exact hback
  | ext => exact reaches_trans hback (reaches_endOperate (verified .ext s))
  | high =>
    have htest := reaches_single (g := .testExt) (c := .test) (verified .high s) rfl rfl
    have hdesc : (verified .high s).desc = s.desc := endVerify_verified .high s ▸ endVerify_desc .high s
    have hskip := reaches_single (g := .skipExt) (c := .skipExt) (verified .high s) rfl rfl
    refine reaches_trans hback (reaches_trans htest ?_)
    rw [stageExit, hdesc, hasExtFuse, goesOn]
    by_cases hext : s.desc.ext = 0x00
    · rw [if_pos hext, if_neg (by simp [hext])]
      exact reaches_trans hskip (reaches_endOperate (skipExt (verified .high s)))
    · rw [if_neg hext, if_pos (bne_iff_ne.mpr hext)]
      exact reaches_refl _

/-- From the final frame of a write on: its second POLL is answered at once, or waits, or gives up. -/
theorem reaches_secondPoll (k : Kind) {s : State} (hr : Readable s) :
    (s.sample 8 = true →
      Reaches (moveTo (.within (.finish .operate k .s8) 0) s) (goesOn k (afterSample true 1 (afterFrame 0x00 0x4C s)))) ∧
    (s.sample 8 = false →
      Reaches (moveTo (.within (.finish .operate k .s8) 0) s)
        (afterFirstLow (.fuseWrite .operate k true) .s8 (afterFrame 0x00 0x4C s))) := by
  have hfinish := reaches_finish .operate k .s8 s hr
  have hr' : Readable (afterFrame 0x00 0x4C s) := hr
  have hsample : (afterFrame 0x00 0x4C s).sample 0 = s.sample 8 := afterFrame_sample _ _ s 0
  rw [← hsample]
  exact ⟨fun h => reaches_trans hfinish (reaches_trans (reaches_enter_high _ _ _ hr' h) (reaches_goesOn k hr')),
    fun h => reaches_trans hfinish (reaches_enter_low _ _ _ hr' h)⟩

/-- From the first POLL of a write, just begun: answered at once, or waiting, or given up; then the same of the second. -/
theorem reaches_bothPolls (k : Kind) {s : State} (hr : Readable s) :
    (s.sample 0 = true → s.sample 9 = true →
      Reaches (moveTo (.polling (.fuseWrite .operate k false) .s8) (enterPoll s))
        (goesOn k (afterSample true 1 (afterFrame 0x00 0x4C (afterSample true 1 s))))) ∧
    (s.sample 0 = false →
      Reaches (moveTo (.polling (.fuseWrite .operate k false) .s8) (enterPoll s))
        (afterFirstLow (.fuseWrite .operate k false) .s8 s)) ∧
    (s.sample 0 = true → s.sample 9 = false →
      Reaches (moveTo (.polling (.fuseWrite .operate k false) .s8) (enterPoll s))
        (afterFirstLow (.fuseWrite .operate k true) .s8 (afterFrame 0x00 0x4C (afterSample true 1 s)))) := by
  obtain ⟨hhigh, hlow⟩ := reaches_secondPoll k (s := afterSample true 1 s) hr
  rw [afterSample_sample] at hhigh hlow
  exact ⟨fun h h' => reaches_trans (reaches_enter_high s _ _ hr h) (hhigh h'), fun h => reaches_enter_low s _ _ hr h,
    fun h h' => reaches_trans (reaches_enter_high s _ _ hr h) (hlow h')⟩

/-- Four frames of eight samples each. -/
theorem afterStrobe_sample (a b v : Byte) (s : State) (j : Nat) : (afterStrobe a b v s).sample j = s.sample (32 + j) := by
  simp only [afterStrobe, afterFrames, List.foldl, afterFrame_sample]
  exact congrArg s.sample (by omega)

/-- Settles O45: each position goes on by its stages, and from the final frame of the write all of them go on alike. -/
theorem waitingSessionGoesOn : Obligations.WaitingSessionGoesOn := by
  intro k s hr
  refine ⟨fun hq => ?_, fun hq h => ?_, fun hq h => ?_⟩
  · have hstrobe := reaches_strobe k s hr
    rw [moveTo_self _ s hq] at hstrobe
    have hr' : Readable (afterStrobe k.writeA k.writeB (kindDefault s.desc k) (withSessionVerify k s)) :=
      afterFrames_readable _ (s := withSessionVerify k s) hr
    obtain ⟨hends, hfirst, hsecond⟩ := reaches_bothPolls k hr'
    simp only [afterStrobe_sample] at hends hfirst hsecond
    exact ⟨fun h h' => reaches_trans hstrobe (hends h h'), fun h => reaches_trans hstrobe (hfirst h),
      fun h h' => reaches_trans hstrobe (hsecond h h')⟩
  · have hfirst := reaches_poll_high s _ _ hr hq h
    obtain ⟨hhigh, hlow⟩ := reaches_secondPoll k (s := afterSample true (s.pcnt + 1) s) hr
    rw [afterSample_sample] at hhigh hlow
    exact ⟨fun h' => reaches_trans hfirst (hhigh h'), fun h' => reaches_trans hfirst (hlow h')⟩
  · exact reaches_trans (reaches_poll_high s _ _ hr hq h) (reaches_goesOn k hr)

end Sys2Proof.Proofs
end

section
/-! PROOF. The matcher (spec/41_signature.md R150 to R152): RDSIG, and MATCH by induction on the entries passed over. -/

namespace Sys2Proof.Proofs

open Sys2Proof.Machine Sys2Proof.Safety Sys2Proof.Claims Sys2Proof.Laws

/-! ### RDSIG -/

/-- Settles O19: the index is checked before the four frames, and the fourth response is left in RSR. -/
theorem signatureByteRead : Obligations.SignatureByteRead := by
  refine ⟨fun n s hn hr => ?_, fun n s hn => if_neg (by omega), fun s => rfl⟩
  rw [← readSignatureByte_eq]
  exact ⟨(if_pos hn).trans (readingSdo_readable _ s hr), readSignatureByte_rsr n s⟩

/-! ### The scan, once some entries have been passed over -/

/-- `n` entries tried, none of them equal: the scan stands at the next one (R151). -/
def afterMisses (n : Nat) (s : State) : State := withMatch n (signatureAfter s n) false s.desc (afterTries n s)

theorem afterTries_params (n : Nat) (s : State) : (afterTries n s).params = s.params := by
  induction n with
  | zero => rfl
  | succ n ih => exact (afterFrames_keeps _ _).1.trans ih

theorem afterTries_fail (n : Nat) (s : State) : (afterTries n s).fail = s.fail := by
  induction n with
  | zero => rfl
  | succ n ih =>
    obtain ⟨-, -, -, -, -, -, -, hfail⟩ := afterFrames_keeps signatureFrames (afterTries n s)
    exact hfail.trans ih

theorem afterTries_byteAt (n : Nat) (s : State) : ∀ k, byteAt (afterTries n s) k = byteAt s (96 * n + k) := by
  induction n with
  | zero => exact fun k => congrArg (byteAt s) (by omega)
  | succ n ih =>
    intro k
    rw [afterTries, signatureFrames_byteAt, ih]
    exact congrArg (byteAt s) (by omega)

/-- The entry the scan stands at is read: twelve more frames, and `SIGB` holds what the target answered. -/
theorem readSignature_afterMisses (n : Nat) (s : State) :
    readSignature (afterMisses n s) = withMatch n (entrySignature s n) false s.desc (afterTries (n + 1) s) := by
  obtain ⟨hent, -, hfound, hdesc, -, hbyte⟩ := withMatch_fields n (signatureAfter s n) false s.desc (afterTries n s)
  rw [readSignature_eq, afterMisses, hent, hfound, hdesc, afterFrames_withMatch, withMatch_withMatch]
  simp only [hbyte, afterTries_byteAt]
  rfl

/-- At an entry that is there and real, the scan ends with it or goes on to the next one. -/
theorem scanTable_entry (n : Nat) {s : State} {m : Nat} {e : Descriptor} (he : s.params.deviceTable[m]? = some e)
    (hreal : e.sig ≠ Signature.sentinel) :
    scanTable (n + 1) (afterMisses m s) =
      if entrySignature s m = e.sig then withMatch m (entrySignature s m) true e (afterTries (m + 1) s)
      else scanTable n (afterMisses (m + 1) s) := by
  have he' : (afterMisses m s).params.deviceTable[(afterMisses m s).ent]? = some e := by
    rw [← he, ← afterTries_params m s]
    rfl
  have hs : isSentinel e = false := by simpa [isSentinel] using hreal
  rw [scanTable_succ, he', readSignature_afterMisses]
  simp only [hs, Bool.false_eq_true, if_false]
  rfl

/-- At the sentinel the scan ends (R62). -/
theorem scanTable_sentinel (n : Nat) {s : State} {m : Nat}
    (hend : s.params.deviceTable[m]? = none ∨ ∃ e, s.params.deviceTable[m]? = some e ∧ e.sig = Signature.sentinel) :
    scanTable (n + 1) (afterMisses m s) = withFail (failAfter .unknownDevice s) (afterMisses m s) := by
  have hfail : failAfter .unknownDevice (afterMisses m s) = failAfter .unknownDevice s := by
    unfold failAfter
    rw [← afterTries_fail m s]
    rfl
  have hentry : (afterMisses m s).params.deviceTable[(afterMisses m s).ent]? = s.params.deviceTable[m]? := by
    rw [← afterTries_params m s]
    rfl
  rw [scanTable_succ, hentry, hfail]
  obtain hnone | ⟨e, he, hsig⟩ := hend
  · rw [hnone]
  · have hs : isSentinel e = true := by simp [isSentinel, hsig]
    rw [he]
    exact if_pos hs

theorem passedOver_of_succ {s : State} {m : Nat} (h : PassedOver s (m + 1)) :
    PassedOver s m ∧ ∃ e, s.params.deviceTable[m]? = some e ∧ e.sig ≠ Signature.sentinel ∧ entrySignature s m ≠ e.sig :=
  ⟨fun j hj => h j (by omega), h m (by omega)⟩

/-- Entries passed over are in the table. -/
theorem le_length_of_passedOver {s : State} {m : Nat} (h : PassedOver s m) : m ≤ s.params.deviceTable.length := by
  cases m with
  | zero => exact Nat.zero_le _
  | succ m =>
    obtain ⟨-, e, he, -⟩ := passedOver_of_succ h
    exact (List.getElem?_eq_some_iff.mp he).1

/-- The scan comes to the first entry it does not pass over. -/
theorem scanTable_passedOver {m : Nat} : ∀ {n : Nat} {s : State}, PassedOver s m →
    scanTable (n + m) (afterMisses 0 s) = scanTable n (afterMisses m s) := by
  induction m with
  | zero => exact fun _ => rfl
  | succ m ih =>
    intro n s h
    obtain ⟨hpassed, e, he, hreal, hne⟩ := passedOver_of_succ h
    have hfuel : n + (m + 1) = n + 1 + m := by omega
    rw [hfuel, ih hpassed, scanTable_entry n he hreal, if_neg hne]

/-- MATCH from the entry it comes to; `n` bounds the entries after that one. -/
theorem matchDevice_passedOver {s : State} {m : Nat} (h : PassedOver s m) :
    ∃ n, matchDevice s = scanTable (n + 1) (afterMisses m s) := by
  have hle := le_length_of_passedOver h
  have hfuel : s.params.deviceTable.length + 1 = s.params.deviceTable.length - m + 1 + m := by omega
  have hbegin : perform matchEntry s = afterMisses 0 s := rfl
  refine ⟨s.params.deviceTable.length - m, ?_⟩
  rw [matchDevice, hbegin, hfuel, scanTable_passedOver h]

/-! ### MATCH -/

theorem exec_matchDevice_of_readable {s : State} (hr : Readable s) : exec .matchDevice s = .next (matchDevice s) :=
  readingIfScanned_readable matchDevice s hr

theorem matchDevice_of_firstMatch {s : State} {m : Nat} {e : Descriptor} (h : FirstMatch s m e) :
    matchDevice s = withMatch m (entrySignature s m) true e (afterTries (m + 1) s) := by
  obtain ⟨hpassed, he, hreal, hsig⟩ := h
  obtain ⟨n, hmatch⟩ := matchDevice_passedOver hpassed
  rw [hmatch, scanTable_entry n he hreal, if_pos hsig]

theorem matchDevice_of_noMatch {s : State} {m : Nat} (h : NoMatch s m) :
    matchDevice s = withFail (failAfter .unknownDevice s) (afterMisses m s) := by
  obtain ⟨hpassed, hend⟩ := h
  obtain ⟨n, hmatch⟩ := matchDevice_passedOver hpassed
  rw [hmatch, scanTable_sentinel n hend]

/-- Settles O20: the earlier entries are passed over one by one, and the scan ends at the first equal one. -/
theorem matchSelectsFirstEqualEntry : Obligations.MatchSelectsFirstEqualEntry := fun _ _ _ hr h =>
  (exec_matchDevice_of_readable hr).trans (congrArg _ (matchDevice_of_firstMatch h))

/-- Settles O21: every real entry is passed over, and the scan ends at the sentinel. -/
theorem matchReportsUnknownDevice : Obligations.MatchReportsUnknownDevice := fun _ _ hr h =>
  (exec_matchDevice_of_readable hr).trans (congrArg _ (matchDevice_of_noMatch h))

theorem scanReads_eq_false {s : State}
    (h : s.params.deviceTable[0]? = none ∨ ∃ e, s.params.deviceTable[0]? = some e ∧ e.sig = Signature.sentinel) :
    scanReads s = false := by
  unfold scanReads tableRead
  obtain hnone | ⟨e, he, hsig⟩ := h
  · rw [hnone]
  · rw [he]
    simp [isSentinel, hsig]

/-- Settles O22: MATCH with nothing to scan needs no readable SDO, and the sentinel at index 0 is reached without a frame. -/
theorem matchOfEmptyTableSendsNothing : Obligations.MatchOfEmptyTableSendsNothing := by
  intro s h
  have hnone : NoMatch s 0 := ⟨fun j hj => absurd hj (Nat.not_lt_zero j), h⟩
  exact (readingIfScanned_allowed matchDevice (.inr (scanReads_eq_false h))).trans (congrArg _ (matchDevice_of_noMatch hnone))

theorem readSignature_found (s : State) : (readSignature s).found = s.found := by
  obtain ⟨-, -, hfound, -⟩ :=
    withMatch_fields s.ent ⟨byteAt s 24, byteAt s 56, byteAt s 88⟩ s.found s.desc (afterFrames signatureFrames s)
  rw [readSignature_eq]
  exact hfound

/-- A scan that finds an entry has read that entry's signature, and the entry is in the table (R152). -/
theorem scanTable_found (n : Nat) : ∀ {s : State}, s.found = false → (scanTable n s).found = true →
    (scanTable n s).sigb = (scanTable n s).desc.sig ∧ (scanTable n s).desc ∈ s.params.deviceTable := by
  induction n with
  | zero => exact fun hs h => absurd (hs.symm.trans h) Bool.false_ne_true
  | succ n ih =>
    intro s hs h
    obtain ⟨hent, hparams⟩ := readSignature_ent_params s
    have hfound : (readSignature s).found = false := (readSignature_found s).trans hs
    rw [scanTable] at h ⊢
    generalize readSignature s = r at *
    split at h
    · rw [testSentinel_eq] at h
      exact absurd (hs.symm.trans h) Bool.false_ne_true
    · rename_i hreal
      rw [if_neg hreal]
      obtain ⟨e, he, hm, hsig, hnext⟩ | ⟨hm, hnext⟩ := compareSignature_cases r
      · rw [if_pos hm, hnext, matched_sigb, matched_desc, ← hparams]
        exact ⟨hsig, List.mem_of_getElem? he⟩
      · rw [hm, if_neg Bool.false_ne_true, hnext] at h
        rw [hm, if_neg Bool.false_ne_true, hnext, ← hparams]
        exact ih (s := { r with ent := r.ent + 1 }) hfound h

theorem signature_eq_iff (a b : Signature) : a = b ↔ a.b0 = b.b0 ∧ a.b1 = b.b1 ∧ a.b2 = b.b2 := by
  cases a
  cases b
  simp only [Signature.mk.injEq]

/-- Settles O23: a scan finds only what it has read; and on one entry the two ways to end are told apart by that entry's compare. -/
theorem matchComparesAllTwentyFourBits : Obligations.MatchComparesAllTwentyFourBits := by
  refine ⟨fun s t h hfound => ?_, fun s e hr htable hreal => ⟨_, exec_matchDevice_of_readable hr, ?_⟩⟩
  · obtain ⟨-, rfl⟩ := readingIfScanned_next h
    exact scanTable_found (s := perform matchEntry s) _ rfl hfound
  · have he : s.params.deviceTable[0]? = some e := by rw [htable]; rfl
    refine Iff.trans ?_ (signature_eq_iff (entrySignature s 0) e.sig)
    have hpassed : PassedOver s 0 := fun j hj => absurd hj (Nat.not_lt_zero j)
    by_cases hsig : entrySignature s 0 = e.sig
    · rw [matchDevice_of_firstMatch ⟨hpassed, he, hreal, hsig⟩]
      exact ⟨fun _ => hsig, fun _ => rfl⟩
    · have hpassed' : PassedOver s 1 := fun j hj => by
        obtain rfl : j = 0 := by omega
        exact ⟨e, he, hreal, hsig⟩
      rw [matchDevice_of_noMatch ⟨hpassed', .inl (by rw [htable]; rfl)⟩]
      exact ⟨nofun, fun h => absurd h hsig⟩

end Sys2Proof.Proofs
end

section
/-! PROOF. A whole session on a device the table does not hold (spec/41_signature.md R153, spec/60_exceptions.md R221): which frames a
stretch of a session sends, and the session steps before and after S7. -/

namespace Sys2Proof.Proofs

open Sys2Proof.Machine Sys2Proof.Safety Sys2Proof.Claims Sys2Proof.Laws

/-! ### The frames that some events send -/

/-- The levels of SDI and SII at the 11 pulses of one frame (R91). -/
def framePairs (f : Byte × Byte) : List (Bool × Bool) := (slotPattern f.1).zip (slotPattern f.2)

theorem pulsedPairs_append (es fs : List Event) : ∀ ls,
    pulsedPairs ls (es ++ fs) = pulsedPairs ls es ++ pulsedPairs (replay es ls) fs := by
  induction es with
  | nil => exact fun _ => rfl
  | cons e es ih =>
    intro ls
    rw [List.cons_append, pulsedPairs, pulsedPairs, ih]
    split <;> rfl

/-- Reading 11 pulses at a time gives the frames back (R91). -/
theorem readFrames_flatMap_framePairs (frames : List (Byte × Byte)) : readFrames (frames.flatMap framePairs) = frames := by
  induction frames with
  | nil => rfl
  | cons f frames ih =>
    have hread : readFrames (framePairs f ++ frames.flatMap framePairs) =
        (packBits (bitsMsbFirst f.1), packBits (bitsMsbFirst f.2)) :: readFrames (frames.flatMap framePairs) := rfl
    rw [List.flatMap_cons, hread, packBits_bitsMsbFirst, packBits_bitsMsbFirst, ih]

theorem length_flatMap_framePairs (frames : List (Byte × Byte)) : (frames.flatMap framePairs).length = 11 * frames.length := by
  induction frames with
  | nil => rfl
  | cons f frames ih =>
    have hone : (framePairs f).length = 11 := rfl
    rw [List.flatMap_cons, List.length_append, ih, hone, List.length_cons]
    omega

theorem sends_of_pulsedPairs {ls : Lines} {es : List Event} {frames : List (Byte × Byte)}
    (h : pulsedPairs ls es = frames.flatMap framePairs) : Sends ls es frames :=
  ⟨h ▸ readFrames_flatMap_framePairs frames, h ▸ length_flatMap_framePairs frames⟩

/-- From `s` to `t` exactly these frames are sent, and the lines are what the events leave. -/
def SendsFrames (frames : List (Byte × Byte)) (s t : State) : Prop :=
  ∃ es, Added s t es ∧ t.lines = replay es s.lines ∧ pulsedPairs s.lines es = frames.flatMap framePairs

namespace SendsFrames

theorem sends {frames : List (Byte × Byte)} {s t : State} (h : SendsFrames frames s t) :
    ∃ es, Added s t es ∧ Sends s.lines es frames := by
  obtain ⟨es, hadd, -, hpulses⟩ := h
  exact ⟨es, hadd, sends_of_pulsedPairs hpulses⟩

theorem of_noEvent {s t : State} (hl : t.lines = s.lines) (ht : t.trace = s.trace) : SendsFrames [] s t := ⟨[], ht, hl, rfl⟩

theorem of_oneEvent (e : Event) {s t : State} (hl : t.lines = e.apply s.lines) (ht : t.trace = e :: s.trace)
    (hrise : isRise e = false) : SendsFrames [] s t := by
  refine ⟨[e], ht, hl, ?_⟩
  rw [pulsedPairs, hrise]
  rfl

theorem trans {fs gs : List (Byte × Byte)} {s t u : State} (h : SendsFrames fs s t) (h' : SendsFrames gs t u) :
    SendsFrames (fs ++ gs) s u := by
  obtain ⟨es, hadd, hlines, hpulses⟩ := h
  obtain ⟨es', hadd', hlines', hpulses'⟩ := h'
  refine ⟨es ++ es', ?_, ?_, ?_⟩
  · rw [Added, hadd', hadd, List.reverse_append, List.append_assoc]
  · rw [hlines', hlines, replay_append]
  · rw [pulsedPairs_append, ← hlines, hpulses, hpulses', List.flatMap_append]

/-- One frame, whatever the lines were before it (R131). -/
theorem of_afterFrame (d i : Byte) (s : State) : SendsFrames [(d, i)] s (afterFrame d i s) := by
  have hadded : Added s (afterFrame d i s) (frameEvents s.params d i s.sample) := by rfl
  obtain ⟨es, hadd, hlines⟩ := LinesFollowTrace.closedUnderParts.rel_xfer d i s
  rw [xfer_after] at hadd hlines
  have hes : es = frameEvents s.params d i s.sample :=
    List.reverse_injective (List.append_cancel_right (hadd.symm.trans hadded))
  exact ⟨es, hadd, hlines, by rw [hes]; rfl⟩

theorem of_afterFrames (l : List (Byte × Byte)) : ∀ s, SendsFrames l s (afterFrames l s) := by
  induction l with
  | nil => exact fun _ => of_noEvent rfl rfl
  | cons f l ih => exact fun s => (of_afterFrame f.1 f.2 s).trans (ih _)

/-- Twelve frames for each entry tried (R151, D10). -/
theorem of_afterTries (n : Nat) (s : State) : SendsFrames (matchFrames n) s (afterTries n s) := by
  induction n with
  | zero => exact of_noEvent rfl rfl
  | succ n ih =>
    have hframes : matchFrames (n + 1) = matchFrames n ++ signatureFrames := by
      simp [matchFrames, List.replicate_succ']
    rw [hframes]
    exact ih.trans (of_afterFrames signatureFrames _)

end SendsFrames

/-! ### The session steps around S7 -/

/-- Nothing is sent, nothing is sampled, and the parameters stay. -/
structure NoFrame (s t : State) : Prop where
  params : t.params = s.params
  sdoIn : t.sdoIn = s.sdoIn
  sdoDraws : t.sdoDraws = s.sdoDraws
  sends : SendsFrames [] s t

namespace NoFrame

theorem trans {s t u : State} (h : NoFrame s t) (h' : NoFrame t u) : NoFrame s u where
  params := h'.params.trans h.params
  sdoIn := h'.sdoIn.trans h.sdoIn
  sdoDraws := h'.sdoDraws.trans h.sdoDraws
  sends := h.sends.trans h'.sends

theorem sample {s t : State} (h : NoFrame s t) (k : Nat) : t.sample k = s.sample k := by
  rw [State.sample, h.sdoIn, h.sdoDraws, State.sample]

end NoFrame

/-- A statement of the session steps themselves: none moves the clock but the grouped writes, and none samples (R191 to R200). -/
def isSessionStmt : Stmt → Bool
  | .level l _ => l != .sci
  | .direction _ _ | .group _ _ | .wait _ | .state _ | .publish | .clearFound | .firstEntry => true
  | _ => false

theorem sessionCode_isSessionStmt (p : Params) (q : SessionStep) : (sessionCode p q).all isSessionStmt = true := by
  cases q <;> rfl

theorem noFrame_act {c : Stmt} (h : isSessionStmt c = true) (s : State) : NoFrame s (c.act s) := by
  cases c with
  | level l v =>
    have hrise : isRise (.setLevel l v) = false := by
      cases l with
      | sci => cases h
      | _ => rfl
    exact ⟨rfl, rfl, rfl, .of_oneEvent _ rfl rfl hrise⟩
  | direction | group | wait | publish => exact ⟨rfl, rfl, rfl, .of_oneEvent _ rfl rfl rfl⟩
  | state | clearFound | firstEntry => exact ⟨rfl, rfl, rfl, .of_noEvent rfl rfl⟩
  | _ => cases h

theorem noFrame_perform (cs : List Stmt) : ∀ {s : State}, cs.all isSessionStmt = true → NoFrame s (perform cs s) := by
  induction cs with
  | nil => exact fun _ => ⟨rfl, rfl, rfl, .of_noEvent rfl rfl⟩
  | cons c cs ih =>
    intro s h
    obtain ⟨hc, hcs⟩ := (Bool.and_eq_true _ _).mp h
    exact (noFrame_act hc s).trans (ih hcs)

/-- The state after the statements of a session step, with the sequencer where it goes on. -/
def afterOwn (p : SessionStep) (s : State) : State := moveTo (afterStep p) (perform (sessionCode s.params p) s)

theorem noFrame_afterOwn (p : SessionStep) (s : State) : NoFrame s (afterOwn p s) :=
  (noFrame_perform _ (sessionCode_isSessionStmt s.params p)).trans ⟨rfl, rfl, rfl, .of_noEvent rfl rfl⟩

/-- Wherever the engine stands before step `p`, it comes to stand before step `q` without a frame. -/
def Passes (p q : SessionStep) : Prop := ∀ s, s.seq = .due p → ∃ t, Reaches s t ∧ t.seq = .due q ∧ NoFrame s t

theorem Passes.of_afterStep {p q : SessionStep} (hp : p ≠ .idle) (h : afterStep p = .due q) : Passes p q :=
  fun s hs => ⟨afterOwn p s, reaches_own p s hp hs, h, noFrame_afterOwn p s⟩

theorem Passes.trans {p q r : SessionStep} (h : Passes p q) (h' : Passes q r) : Passes p r := by
  intro s hs
  obtain ⟨t, hst, ht, hno⟩ := h s hs
  obtain ⟨u, htu, hu, hno'⟩ := h' t ht
  exact ⟨u, reaches_trans hst htu, hu, hno.trans hno'⟩

/-- The way up, S1 to S6 (R201). -/
theorem passes_s1_s7 : Passes .s1 .s7 :=
  have up {p q : SessionStep} (hp : p ≠ .idle) (h : afterStep p = .due q) : Passes p q := .of_afterStep hp h
  (up (p := .s1) nofun rfl).trans <| (up (p := .s2) nofun rfl).trans <| (up (p := .s3) nofun rfl).trans <|
    (up (p := .s4) nofun rfl).trans <| (up (p := .s5) nofun rfl).trans (up (p := .s6) nofun rfl)

/-- A Start presented in Idle brings the engine to S7. -/
theorem reaches_s7 {s : State} (hst : s.st = .idle) (hq : s.seq = .due .idle) (hstart : s.startPresented = true) :
    ∃ t, Reaches s t ∧ t.seq = .due .s7 ∧ NoFrame s t := by
  obtain ⟨looksForStart, -⟩ := positionsNameOperations
  have hstep : step s = .next (goTo .s1 { emit .start (lookForStart s) with done := false, fail := .none }) := by
    rw [looksForStart s hq hstart]
    show execStart (lookForStart s) = _
    rw [execStart, lookForStart_st, hst]
  obtain ⟨t, ht, hseq, hno⟩ := passes_s1_s7 _ (goTo_seq .s1 _)
  have hfirst : NoFrame s (goTo .s1 { emit .start (lookForStart s) with done := false, fail := .none }) :=
    ⟨rfl, rfl, rfl, .of_oneEvent .start rfl rfl rfl⟩
  exact ⟨t, reaches_trans (reaches_step hstep) ht, hseq, hfirst.trans hno⟩

/-- The way down, S8 and S9: the outcome of S7 is published and its cause stays (R199, R200, R229). -/
theorem reaches_end {s : State} (hq : s.seq = .due .s8) :
    ∃ t, Reaches s t ∧ t.seq = .due .idle ∧ t.done = true ∧ t.outcome = s.outcome ∧ t.fail = s.fail ∧ NoFrame s t :=
  ⟨afterOwn .s9 (afterOwn .s8 s), reaches_trans (reaches_own .s8 s nofun hq) (reaches_own .s9 _ nofun rfl), rfl, rfl, rfl, rfl,
    (noFrame_afterOwn .s8 s).trans (noFrame_afterOwn .s9 _)⟩

/-! ### The invariant at the session's ends -/

/-- A run that takes a step comes from that step's next state. -/
theorem run_succ_next (M : Host.Core) {n : Nat} {s t : M.State} (h : M.run (n + 1) s = .next t) :
    ∃ u, M.step s = .next u ∧ M.run n u = .next t := by
  rw [Host.Core.run] at h
  cases hs : M.step s with
  | next u =>
    rw [hs] at h
    exact ⟨u, rfl, h⟩
  | fault r | refused r =>
    rw [hs] at h
    cases h

theorem engineInv_of_reaches {s t : State} (hinv : EngineInv s) (h : Reaches s t) : EngineInv t := by
  obtain ⟨n, hn⟩ := h
  induction n generalizing s with
  | zero =>
    cases hn
    exact hinv
  | succ n ih =>
    obtain ⟨u, hu, hn⟩ := run_succ_next core hn
    exact ih (everyStepKeepsInvariant s u hinv hu) hn

/-- S7 begins with SDO released (R195, R203). -/
theorem readable_of_s7 {s : State} (hinv : EngineInv s) (hq : s.seq = .due .s7) : Readable s := by
  have hlines := hinv.lines
  rw [LinesOk, hq] at hlines
  rw [Readable, hlines _ rfl]
  rfl

/-! ### S7 without a match -/

theorem passedOver_congr {s t : State} {m : Nat} (hp : t.params = s.params) (hs : ∀ k, t.sample k = s.sample k) (h : PassedOver s m) :
    PassedOver t m := by
  simpa only [PassedOver, entrySignature, byteAt, hp, hs] using h

theorem noMatch_congr {s t : State} {m : Nat} (hp : t.params = s.params) (hs : ∀ k, t.sample k = s.sample k) (h : NoMatch s m) :
    NoMatch t m :=
  ⟨passedOver_congr hp hs h.1, hp ▸ h.2⟩

/-- S7 with no match sends MATCH's frames only, and settles the outcome 0 (R153, R197, R198). -/
theorem operate_of_noMatch {s : State} {m : Nat} (h : NoMatch s m) :
    (operate s).seq = .due .s8 ∧ (operate s).outcome = false ∧ (operate s).fail = failAfter .unknownDevice s ∧
    SendsFrames (matchFrames m) s (operate s) := by
  have hno : NoMatch ((Stmt.state .operating).act s) m := noMatch_congr rfl (fun _ => rfl) h
  have hunmatched : (matchDevice ((Stmt.state .operating).act s)).found = false := by
    rw [matchDevice_of_noMatch hno]
    rfl
  have hoperate : operate s = endOperate (clearOks (matchDevice ((Stmt.state .operating).act s))) := by
    rw [operate, operateFound, if_neg (by simp [hunmatched])]
  rw [hoperate, matchDevice_of_noMatch hno]
  exact ⟨rfl, rfl, rfl, (SendsFrames.of_noEvent (t := (Stmt.state .operating).act s) rfl rfl).trans (.of_afterTries m _)⟩

/-- Settles O60: START and S1 to S6, the scan to the sentinel, and the way down. -/
theorem unknownDeviceSessionFails : Obligations.UnknownDeviceSessionFails := by
  intro s m hinv hq hstart hnone
  have hidle : s.st = .idle := hinv.state.trans (by rw [hq]; rfl)
  obtain ⟨u, hup, huq, hquiet⟩ := reaches_s7 hidle hq hstart
  have hu := engineInv_of_reaches hinv hup
  have hwork := reaches_operate u huq (.inl (readable_of_s7 hu huq))
  obtain ⟨hseq, hout, hfail, hsends⟩ := operate_of_noMatch (noMatch_congr hquiet.params hquiet.sample hnone)
  obtain ⟨t, hdown, htq, hdone, htout, htfail, hlate⟩ := reaches_end hseq
  have hreach := reaches_trans hup (reaches_trans hwork hdown)
  have ht := engineInv_of_reaches hinv hreach
  have hall : SendsFrames (matchFrames m) s t := by
    have h := (hquiet.sends.trans hsends).trans hlate.sends
    rwa [List.nil_append, List.append_nil] at h
  obtain ⟨es, hadd, hes⟩ := hall.sends
  refine ⟨t, es, hreach, ⟨ht.state.trans (by rw [htq]; rfl), hdone⟩, ?_, ?_, ht.afterSession htq hdone, hadd, hes⟩
  · rw [published, if_pos hdone, htout, hout]
  · rw [htfail, hfail, failAfter, hu.noEarlyFailure (by rw [huq]; rfl)]
    rfl

end Sys2Proof.Proofs
end

section
/-! PROOF. Frames and POLLs over a whole operation (spec/40_bit_and_frame.md R131 to R134, spec/42_fuse.md R170, R174): what they may
change, how they leave the lines, and how many samples they take. -/

namespace Sys2Proof.Proofs

open Sys2Proof.Machine Sys2Proof.Safety Sys2Proof.Claims Sys2Proof.Laws

/-! ### What frames and POLLs may change -/

/-- At most the lines, the registers of a frame, the poll count, the answers still to come and the trace differ (R131, R133, R134). -/
def BusOnly (s t : State) : Prop :=
  t = { s with
    lines := t.lines, dsr := t.dsr, isr := t.isr, rsr := t.rsr, slot := t.slot, pcnt := t.pcnt, sdoIn := t.sdoIn
    sdoDraws := t.sdoDraws, trace := t.trace }

namespace BusOnly

theorem trans {s t u : State} (h : BusOnly s t) (h' : BusOnly t u) : BusOnly s u := by
  unfold BusOnly at *
  refine h'.trans ?_
  rw [h]

theorem of_afterFrame (d i : Byte) (s : State) : BusOnly s (afterFrame d i s) := rfl

theorem of_afterSample (b : Bool) (n : Nat) (s : State) : BusOnly s (afterSample b n s) := rfl

theorem of_afterFrames (l : List (Byte × Byte)) : ∀ s, BusOnly s (afterFrames l s) := by
  induction l with
  | nil => exact fun _ => rfl
  | cons f l ih => exact fun s => (of_afterFrame f.1 f.2 s).trans (ih _)

theorem of_afterTries (n : Nat) (s : State) : BusOnly s (afterTries n s) := by
  induction n with
  | zero => rfl
  | succ n ih => exact ih.trans (of_afterFrames signatureFrames _)

theorem of_afterWriteAtOnce (a b v : Byte) (s : State) : BusOnly s (afterWriteAtOnce a b v s) :=
  (of_afterFrames _ s).trans <| (of_afterSample true 1 _).trans <| (of_afterFrame 0x00 0x4C _).trans (of_afterSample true 1 _)

theorem sameRegisters {s t : State} (h : BusOnly s t) : SameRegisters s t := by
  rw [h]
  constructor <;> rfl

end BusOnly

/-! ### The lines and the samples over many frames -/

theorem afterFrames_lines {l : List (Byte × Byte)} (h : l ≠ []) : ∀ s, (afterFrames l s).lines = atRest s.lines := by
  induction l with
  | nil => exact absurd rfl h
  | cons f l ih =>
    intro s
    have hfirst : (afterFrame f.1 f.2 s).lines = atRest s.lines := rfl
    by_cases hl : l = []
    · rw [hl]
      exact hfirst
    · refine (ih hl (afterFrame f.1 f.2 s)).trans ?_
      rw [hfirst]
      rfl

theorem afterTries_lines (n : Nat) (s : State) : (afterTries (n + 1) s).lines = atRest s.lines := by
  rw [afterTries, signatureFrames, afterFrames_lines (List.cons_ne_nil _ _)]
  cases n with
  | zero => rfl
  | succ n =>
    rw [afterTries_lines n s]
    rfl

theorem afterWriteAtOnce_lines (a b v : Byte) (s : State) : (afterWriteAtOnce a b v s).lines = atRest s.lines := by
  have hlast (u : State) : (afterSample true 1 (afterFrame 0x00 0x4C (afterSample true 1 u))).lines = atRest u.lines := rfl
  rw [afterWriteAtOnce, afterFifthFrame, hlast, afterStrobe, afterFrames_lines (List.cons_ne_nil _ _)]
  rfl

theorem afterFrames_sample (l : List (Byte × Byte)) : ∀ (s : State) (j : Nat),
    (afterFrames l s).sample j = s.sample (8 * l.length + j) := by
  induction l with
  | nil => exact fun s j => congrArg s.sample (Nat.zero_add j).symm
  | cons f l ih =>
    intro s j
    refine (ih (afterFrame f.1 f.2 s) j).trans ((afterFrame_sample f.1 f.2 s _).trans (congrArg s.sample ?_))
    rw [List.length_cons]
    omega

theorem afterTries_sample (n : Nat) (s : State) : ∀ j, (afterTries n s).sample j = s.sample (96 * n + j) := by
  induction n with
  | zero => exact fun j => congrArg s.sample (by omega)
  | succ n ih =>
    intro j
    rw [afterTries, afterFrames_sample, ih]
    exact congrArg s.sample (show 96 * n + (96 + j) = _ by omega)

theorem afterWriteAtOnce_sample (a b v : Byte) (s : State) (j : Nat) : (afterWriteAtOnce a b v s).sample j = s.sample (42 + j) := by
  rw [afterWriteAtOnce, afterSample_sample, afterFifthFrame, afterFrame_sample, afterSample_sample, afterStrobe_sample]
  exact congrArg s.sample (by omega)

end Sys2Proof.Proofs
end

section
/-! PROOF. The fuse operations run alone (spec/42_fuse.md R170 to R182): a write, a read, and a VERIFY, which is both with a compare; and
how a write or a VERIFY that waited in one of its POLLs goes on. -/

namespace Sys2Proof.Proofs

open Sys2Proof.Machine Sys2Proof.Safety Sys2Proof.Claims Sys2Proof.Laws

/-! ### Writes -/

theorem readingSdo_eq_next {f : State → State} {s t : State} (hr : Readable s) (h : f s = t) : readingSdo f s = .next t :=
  (readingSdo_readable f s hr).trans (congrArg _ h)

/-- WRFUSE.k run alone, by what its two POLLs sample first (R170). -/
theorem writeAlone_cases (k : Kind) (v : Byte) (s : State) :
    (s.sample 32 = true → s.sample 41 = true →
      writeAlone k v s = standing (.due s.seq.back) (afterWriteAtOnce (writeByteA k) (writeByteB k) v s)) ∧
    (s.sample 32 = false → writeAlone k v s =
      afterFirstLow (.fuseWrite .write k false) s.seq.back (afterStrobe (writeByteA k) (writeByteB k) v s)) ∧
    (s.sample 32 = true → s.sample 41 = false → writeAlone k v s =
      afterFirstLow (.fuseWrite .write k true) s.seq.back (afterFifthFrame (writeByteA k) (writeByteB k) v s)) :=
  ⟨fun h h' => writeFuse_ready _ _ _ _ _ _ ⟨h, h'⟩, writeFuse_firstLow _ _ _ _ _ _, writeFuse_secondLow _ _ _ _ _ _⟩

/-- Settles O24: both kinds run the same write, each with its own two strobe bytes. -/
theorem lowAndHighWriteSequences : Obligations.LowAndHighWriteSequences := by
  intro v s hr
  obtain ⟨lowEnds, lowFirst, lowSecond⟩ := writeAlone_cases .low v s
  obtain ⟨highEnds, highFirst, highSecond⟩ := writeAlone_cases .high v s
  exact ⟨fun h h' => ⟨readingSdo_eq_next hr (lowEnds h h'), readingSdo_eq_next hr (highEnds h h')⟩,
    fun h => ⟨readingSdo_eq_next hr (lowFirst h), readingSdo_eq_next hr (highFirst h)⟩,
    fun h h' => ⟨readingSdo_eq_next hr (lowSecond h h'), readingSdo_eq_next hr (highSecond h h')⟩⟩

/-- Settles O25: the same write with the bytes of the extended fuse; `DESC` is not looked at. -/
theorem extendedWriteSequence : Obligations.ExtendedWriteSequence := by
  intro v s hr
  obtain ⟨ends, first, second⟩ := writeAlone_cases .ext v s
  exact ⟨fun h h' => readingSdo_eq_next hr (ends h h'), fun h => readingSdo_eq_next hr (first h),
    fun h h' => readingSdo_eq_next hr (second h h')⟩

/-! ### A write that waited in its first POLL -/

/-- From a wait in the first POLL of a write that samples 1: the final frame, and what the second POLL samples first (R170). -/
theorem reaches_of_firstPoll {o : WriteOwner} {k : Kind} {back : SessionStep} {s : State} (hr : Readable s)
    (hq : s.seq = .polling (.fuseWrite o k false) back) (h : s.sample 0 = true) :
    (s.sample 9 = true →
      Reaches s (moveTo (Machine.afterPoll (.fuseWrite o k true) back) (afterSample true 1 (afterFirstPoll s)))) ∧
    (s.sample 9 = false → Reaches s (afterFirstLow (.fuseWrite o k true) back (afterFirstPoll s))) := by
  have hframe : Reaches s (moveTo (.polling (.fuseWrite o k true) back) (enterPoll (afterFirstPoll s))) :=
    reaches_trans (reaches_poll_high s _ back hr hq h) (reaches_finish o k back (afterSample true (s.pcnt + 1) s) hr)
  have hsample : (afterFirstPoll s).sample 0 = s.sample 9 := by
    rw [afterFirstPoll, afterFrame_sample, afterSample_sample]
  rw [← hsample]
  exact ⟨fun h' => reaches_trans hframe (reaches_enter_high _ _ back hr h'),
    fun h' => reaches_trans hframe (reaches_enter_low _ _ back hr h')⟩

/-- Settles O26: a WRFUSE run alone is over when its second POLL is. -/
theorem waitingWriteGoesOn : Obligations.WaitingWriteGoesOn := fun _ s _ hr h =>
  ⟨fun hq => (reaches_of_firstPoll hr hq h).1, fun hq => (reaches_of_firstPoll hr hq h).2, fun hq => reaches_poll_high s _ _ hr hq h⟩

/-! ### Reads -/

/-- Settles O27: three frames of each kind, and the third response is left in RSR. -/
theorem lowAndHighReadSequences : Obligations.LowAndHighReadSequences := fun s hr =>
  ⟨readingSdo_eq_next hr (readFuse_eq .low s), afterRead_rsr _ _ s, readingSdo_eq_next hr (readFuse_eq .high s), afterRead_rsr _ _ s⟩

/-- Settles O28: the same three frames with the bytes of the extended fuse. -/
theorem extendedReadSequence : Obligations.ExtendedReadSequence := fun s hr =>
  ⟨readingSdo_eq_next hr (readFuse_eq .ext s), afterRead_rsr _ _ s⟩

/-! ### VERIFY -/

/-- The cause a compare leaves depends on the cause before it alone (R226). -/
theorem failAfterCompare_congr {s t : State} (h : t.fail = s.fail) (ok : Bool) : failAfterCompare ok t = failAfterCompare ok s := by
  rw [failAfterCompare, failAfterCompare, failAfter, failAfter, h]

/-- The end of a VERIFY whose write was answered at once, in terms of the state it began in (R178). -/
theorem verified_afterWriteAtOnce (k : Kind) (a b v : Byte) (s : State) :
    verified k (afterWriteAtOnce a b v (withVerify k v s)) =
      withOk k (decide (readBackAt s 0 = v))
        (withReadBack (readBackAt s 0) (failAfterCompare (decide (readBackAt s 0 = v)) s)
          (afterRead k.readA k.readB (afterWriteAtOnce a b v (withVerify k v s)))) := by
  have hback : byteAt (afterWriteAtOnce a b v (withVerify k v s)) 16 = readBackAt s 0 := afterWriteAtOnce_byteAt a b v _ 16
  have hwrite := (BusOnly.of_afterWriteAtOnce a b v (withVerify k v s)).sameRegisters
  have hwval : (afterWriteAtOnce a b v (withVerify k v s)).wval = v := hwrite.wval
  have hfail : (afterWriteAtOnce a b v (withVerify k v s)).fail = s.fail := hwrite.fail
  rw [verified, hback, hwval, failAfterCompare_congr hfail]

/-- VERIFY.k run alone with both POLLs answered at once (R178). -/
theorem verifyAlone_ready (k : Kind) (v : Byte) {s : State} (h : PollsReady s 0) :
    verifyAlone k v s =
      standing (.due s.seq.back) (withOk k (decide (readBackAt s 0 = v))
        (withReadBack (readBackAt s 0) (failAfterCompare (decide (readBackAt s 0 = v)) s)
          (afterRead k.readA k.readB (afterWriteAtOnce (writeByteA k) (writeByteB k) v (withVerify k v s))))) := by
  have hwrite : verifyAlone k v s = endVerifyAlone k s.seq.back (afterWriteAtOnce (writeByteA k) (writeByteB k) v (withVerify k v s)) :=
    writeFuse_ready .verify k v s.seq.back _ (withVerify k v s) h
  rw [hwrite, endVerifyAlone, endVerify_verified, verified_afterWriteAtOnce]
  rfl

/-- Settles O29: the flag of the low fuse. -/
theorem verifyLowResult : Obligations.VerifyLowResult := fun v _ hr h => readingSdo_eq_next hr (verifyAlone_ready .low v h)

/-- Settles O30: the flag of the high fuse. -/
theorem verifyHighResult : Obligations.VerifyHighResult := fun v _ hr h => readingSdo_eq_next hr (verifyAlone_ready .high v h)

/-- VERIFY.E sends its frames unless a device without extended fuse has matched (R182). -/
theorem exec_verifyE_of_fuse (v : Byte) {s : State} (h : s.found = true → s.desc.ext ≠ 0x00) :
    exec (.verifyE v) s = readingSdo (verifyAlone .ext v) s := by
  have hrun : extSkipped s = false := by
    rw [extSkipped, hasExtFuse]
    cases hfound : s.found with
    | false => rfl
    | true => simpa using h hfound
  rw [exec, execVerifyE, hrun]

theorem exec_verifyE_of_noFuse (v : Byte) {s : State} (hfound : s.found = true) (hext : s.desc.ext = 0x00) :
    exec (.verifyE v) s = .next (withOke true s) := by
  have hskip : extSkipped s = true := by simp [extSkipped, hasExtFuse, hfound, hext]
  rw [exec, execVerifyE, hskip]
  rfl

/-- Settles O31: the flag of the extended fuse, from the compare or from the skip. -/
theorem verifyExtendedResult : Obligations.VerifyExtendedResult :=
  ⟨fun v _ hr h hfuse => (exec_verifyE_of_fuse v hfuse).trans (readingSdo_eq_next hr (verifyAlone_ready .ext v h)),
    fun v _ => exec_verifyE_of_noFuse v⟩

/-! ### A VERIFY that waits -/

/-- A write whose POLLs are not both answered at once stops in one of them, whoever it belongs to and whatever would follow (R170). -/
theorem writeFuse_stops {s : State} (h : ¬ PollsReady s 0) (k : Kind) (v : Byte) (back : SessionStep) :
    ∃ second u, ∀ o f, writeFuse o k v back f s = afterFirstLow (.fuseWrite o k second) back u := by
  by_cases hfirst : s.sample 32 = true
  · have hsecond : s.sample 41 = false := Bool.eq_false_iff.mpr fun h' => h ⟨hfirst, h'⟩
    exact ⟨true, _, fun o f => writeFuse_secondLow o k v back f s hfirst hsecond⟩
  · exact ⟨false, _, fun o f => writeFuse_firstLow o k v back f s (Bool.eq_false_iff.mpr hfirst)⟩

/-- Where a POLL waits, it waits in the same state whatever it belongs to. -/
theorem afterFirstLow_of_polling {site site' : PollSite} {back back' : SessionStep} {s : State}
    (h : (afterFirstLow site back s).seq = .polling site' back') : site = site' ∧ back = back' ∧
      ∀ other, afterFirstLow other back s = standing (.polling other back) (afterFirstLow site back s) := by
  unfold afterFirstLow at h ⊢
  split at h
  · cases h
  · rename_i hlimit
    cases h
    exact ⟨rfl, rfl, fun other => by rw [if_neg hlimit, if_neg hlimit]; rfl⟩

/-- A VERIFY waits where its write, run with `KIND` and `WVAL` set, waits (R178). -/
theorem verifyAlone_waits {k : Kind} {v : Byte} {s t : State} {second : Bool} {back : SessionStep}
    (ht : t = writeAlone k v (withVerify k v s)) (hq : t.seq = .polling (.fuseWrite .write k second) back) :
    verifyAlone k v s = standing (.polling (.fuseWrite .verify k second) back) t := by
  by_cases h : PollsReady (withVerify k v s) 0
  · rw [ht, (writeAlone_cases k v (withVerify k v s)).1 h.1 h.2] at hq
    cases hq
  · obtain ⟨second', u, hstops⟩ := writeFuse_stops h k v s.seq.back
    obtain rfl := ht.trans (hstops .write _)
    obtain ⟨hsite, hback, hother⟩ := afterFirstLow_of_polling hq
    cases hsite
    cases hback
    exact (hstops .verify _).trans (hother _)

/-- Settles O32: each kind's VERIFY begins with its write. -/
theorem verifyWaitsWhereWriteWaits : Obligations.VerifyWaitsWhereWriteWaits := by
  intro v s t second back
  refine ⟨fun hw hq => ?_, fun hw hq => ?_, fun hfuse hw hq => (exec_verifyE_of_fuse v hfuse).trans ?_⟩
  all_goals
    obtain ⟨hr, ht⟩ := readingSdo_next hw
    exact readingSdo_eq_next hr (verifyAlone_waits ht hq)

/-- Settles O33: after the second POLL of a VERIFY come the read back and the compare. -/
theorem waitingVerifyEnds : Obligations.WaitingVerifyEnds := by
  intro k s back hr h
  have hread (u : State) (hu : Readable u) :
      Reaches (moveTo (.within (.readBack .verify k back) 0) u) (standing (.due back) (verified k u)) :=
    reaches_readBack .verify k back u hu
  refine ⟨fun hq h' => ?_, fun hq => (reaches_of_firstPoll hr hq h).2, fun hq => ?_⟩
  · exact reaches_trans ((reaches_of_firstPoll hr hq h).1 h') (hread _ hr)
  · exact reaches_trans (reaches_poll_high s _ back hr hq h) (hread _ hr)

end Sys2Proof.Proofs
end

section
/-! PROOF. S7 on a matched device whose POLLs are answered at once (spec/42_fuse.md R182 to R184, spec/43_session.md R197, R198): the scan
and then one VERIFY after the other, each of which keeps what the ones before it have left. -/

namespace Sys2Proof.Proofs

open Sys2Proof.Machine Sys2Proof.Safety Sys2Proof.Claims Sys2Proof.Laws

/-! ### One VERIFY of S7 -/

/-- The state after the VERIFY of kind `k` of S7, both POLLs answered at once (R178, R183). -/
def afterVerify (k : Kind) (s : State) : State :=
  verified k (afterWriteAtOnce k.writeA k.writeB (kindDefault s.desc k) (withSessionVerify k s))

theorem verifyInSession_ready (k : Kind) (next : State → State) {s : State} (h : PollsReady s 0) :
    verifyInSession k (fun u => next (endVerify k u)) s = next (afterVerify k s) := by
  have hv : factoryValue s.desc k = kindDefault s.desc k := by cases k <;> rfl
  have hA : writeByteA k = k.writeA := by cases k <;> rfl
  have hB : writeByteB k = k.writeB := by cases k <;> rfl
  rw [verifyInSession, hv]
  refine (writeFuse_ready _ _ _ _ _ (withSessionVerify k s) h).trans ?_
  rw [hA, hB, endVerify_verified, afterVerify]

/-- Did the VERIFY that starts in `s` read back what it wrote? -/
def restores (k : Kind) (s : State) : Bool := decide (readBackAt s 0 = kindDefault s.desc k)

/-- A VERIFY writes its own registers and flag, the cause, and what frames and POLLs write. -/
theorem afterVerify_eq (k : Kind) (s : State) : ∃ u, BusOnly (withSessionVerify k s) u ∧ u.lines = atRest s.lines ∧
    afterVerify k s = withOk k (restores k s) (withReadBack (readBackAt s 0) (failAfterCompare (restores k s) s) u) := by
  refine ⟨_, ?_, ?_, verified_afterWriteAtOnce k _ _ _ s⟩
  · exact (BusOnly.of_afterWriteAtOnce _ _ _ _).trans (.of_afterFrames _ _)
  · rw [afterRead, afterFrames_lines (List.cons_ne_nil _ _), afterWriteAtOnce_lines]
    rfl

theorem afterVerify_registers (k : Kind) (s : State) :
    (afterVerify k s).st = s.st ∧ (afterVerify k s).found = s.found ∧ (afterVerify k s).desc = s.desc ∧
    (afterVerify k s).kind = k ∧ (afterVerify k s).wval = kindDefault s.desc k ∧
    (afterVerify k s).fail = failAfterCompare (restores k s) s ∧ (afterVerify k s).lines = atRest s.lines := by
  obtain ⟨u, hu, hlines, h⟩ := afterVerify_eq k s
  have hsame := hu.sameRegisters
  rw [h]
  cases k <;> exact ⟨hsame.st, hsame.found, hsame.desc, hsame.kind, hsame.wval, rfl, hlines⟩

/-- The flag of a VERIFY's own kind says whether it read back what it wrote (R179 to R181). -/
theorem afterVerify_flag (s : State) : (afterVerify .low s).okl = restores .low s ∧ (afterVerify .high s).okh = restores .high s ∧
    (afterVerify .ext s).oke = restores .ext s := by
  refine ⟨?_, ?_, ?_⟩
  all_goals
    obtain ⟨u, -, -, h⟩ := afterVerify_eq _ s
    rw [h]
    rfl

/-- A VERIFY of another kind leaves `OKL` alone. -/
theorem afterVerify_okl_of_ne {k : Kind} (hk : k ≠ .low) (s : State) : (afterVerify k s).okl = s.okl := by
  obtain ⟨u, hu, -, h⟩ := afterVerify_eq k s
  rw [h]
  cases k with
  | low => exact absurd rfl hk
  | high | ext => exact hu.sameRegisters.okl

/-- A VERIFY of another kind leaves `OKH` alone. -/
theorem afterVerify_okh_of_ne {k : Kind} (hk : k ≠ .high) (s : State) : (afterVerify k s).okh = s.okh := by
  obtain ⟨u, hu, -, h⟩ := afterVerify_eq k s
  rw [h]
  cases k with
  | high => exact absurd rfl hk
  | low | ext => exact hu.sameRegisters.okh

/-- Five frames of a write, three of a read, and a sample for each of the two POLLs: 66 samples. -/
theorem afterVerify_sample (k : Kind) (s : State) (j : Nat) : (afterVerify k s).sample j = s.sample (66 + j) := by
  have hflags (ok : Bool) (r : Byte) (c : Cause) (u : State) : (withOk k ok (withReadBack r c u)).sample j = u.sample j := by
    cases k <;> rfl
  have hbegin (i : Nat) : (withSessionVerify k s).sample i = s.sample i := rfl
  rw [afterVerify, verified, hflags, afterRead, afterFrames_sample, afterWriteAtOnce_sample, hbegin, ← Nat.add_assoc]
  rfl

/-- A VERIFY sends the five frames of its write and the three of its read, and nothing else (R170, R174). -/
theorem sendsFrames_afterVerify (k : Kind) (s : State) : SendsFrames (verifyFrames k (kindDefault s.desc k)) s (afterVerify k s) := by
  have hpoll (u : State) : SendsFrames [] u (afterSample true 1 u) := .of_oneEvent (.readLevel .sdo true) rfl rfl rfl
  have hwrite (a b v : Byte) (u : State) :
      SendsFrames [(0x40, 0x4C), (v, 0x2C), (0x00, a), (0x00, b), (0x00, 0x4C)] u (afterWriteAtOnce a b v u) :=
    (SendsFrames.of_afterFrames _ u).trans <| (hpoll _).trans <| (SendsFrames.of_afterFrame 0x00 0x4C _).trans (hpoll _)
  have hflags (ok : Bool) (r : Byte) (c : Cause) (u : State) : SendsFrames [] u (withOk k ok (withReadBack r c u)) := by
    cases k <;> exact .of_noEvent rfl rfl
  have hread (u : State) : SendsFrames [(0x04, 0x4C), (0x00, k.readA), (0x00, k.readB)] u (verified k u) :=
    (SendsFrames.of_afterFrames _ u).trans (hflags _ _ _ _)
  exact (SendsFrames.of_noEvent (t := withSessionVerify k s) rfl rfl).trans ((hwrite _ _ _ _).trans (hread _))

/-- Two compares one after the other leave the cause that one compare of both would leave: the first cause is kept (R226). -/
theorem failAfterCompare_and {ok ok' : Bool} {s t : State} (h : t.fail = failAfterCompare ok s) :
    failAfterCompare ok' t = failAfterCompare (ok && ok') s := by
  cases ok with
  | true => exact failAfterCompare_congr h ok'
  | false =>
    have hfirst : t.fail = failAfter .verifyMismatch s := h
    have hcause : failAfter .verifyMismatch s ≠ .none := by
      unfold failAfter
      split
      · exact nofun
      · assumption
    cases ok' with
    | true => exact hfirst
    | false =>
      show failAfter .verifyMismatch t = failAfter .verifyMismatch s
      rw [← hfirst] at hcause ⊢
      exact if_neg hcause

/-! ### S7, VERIFY by VERIFY -/

theorem operateFrame_trans {s t u : State} (h : OperateFrame s t) (h' : OperateFrame t u) : OperateFrame s u := by
  unfold OperateFrame at *
  refine h'.trans ?_
  rw [h]

theorem operateFrame_of_busOnly {s t : State} (h : BusOnly s t) : OperateFrame s t := by
  unfold OperateFrame
  rw [h]

theorem operateFrame_afterVerify (k : Kind) (s : State) : OperateFrame s (afterVerify k s) := by
  obtain ⟨u, hu, -, h⟩ := afterVerify_eq k s
  have hbegin : OperateFrame s u := operateFrame_trans (t := withSessionVerify k s) rfl (operateFrame_of_busOnly hu)
  rw [h]
  cases k <;> exact operateFrame_trans hbegin rfl

/-- `t` is where the work of S7 from `s` has come to with entry `e` matched: `n` samples have been taken, these frames were sent, and `ok`
says whether every VERIFY so far has read back what it wrote. -/
structure Restoring (s : State) (e : Descriptor) (n : Nat) (frames : List (Byte × Byte)) (ok : Bool) (t : State) : Prop where
  frame : OperateFrame s t
  st : t.st = .operating
  found : t.found = true
  desc : t.desc = e
  lines : t.lines = atRest s.lines
  sample : ∀ j, t.sample j = s.sample (n + j)
  sends : SendsFrames frames s t
  fail : t.fail = failAfterCompare ok s

namespace Restoring

variable {s t : State} {e : Descriptor} {n : Nat} {frames : List (Byte × Byte)} {ok : Bool}

theorem pollsReady (h : Restoring s e n frames ok t) (hp : PollsReady s n) : PollsReady t 0 := by
  obtain ⟨hfirst, hsecond⟩ := hp
  exact ⟨(h.sample _).trans hfirst, (h.sample _).trans hsecond⟩

theorem restores_eq (h : Restoring s e n frames ok t) (k : Kind) : restores k t = decide (readBackAt s n = kindDefault e k) := by
  have hback : readBackAt t 0 = readBackAt s n := by simp only [readBackAt, byteAt, h.sample, Nat.zero_add, Nat.add_assoc]
  rw [restores, hback, h.desc]

/-- After MATCH (R151): twelve frames for each entry tried, and no VERIFY yet. -/
theorem of_firstMatch {m : Nat} (h : FirstMatch s m e) :
    Restoring s e (96 * (m + 1)) (matchFrames (m + 1)) true (matchDevice { s with st := .operating }) := by
  have hmatch : FirstMatch { s with st := .operating } m e := h
  have hbus := BusOnly.of_afterTries (m + 1) { s with st := .operating }
  have hlines : (afterTries (m + 1) { s with st := .operating }).lines = atRest s.lines := afterTries_lines m _
  have hsample (j : Nat) : (afterTries (m + 1) { s with st := .operating }).sample j = s.sample (96 * (m + 1) + j) :=
    afterTries_sample (m + 1) _ j
  have hsends : SendsFrames (matchFrames (m + 1)) s (afterTries (m + 1) { s with st := .operating }) :=
    (SendsFrames.of_noEvent (t := { s with st := .operating }) rfl rfl).trans (.of_afterTries (m + 1) _)
  rw [matchDevice_of_firstMatch hmatch]
  generalize afterTries (m + 1) { s with st := .operating } = u at *
  have hframe : OperateFrame s u := operateFrame_trans (t := { s with st := .operating }) rfl (operateFrame_of_busOnly hbus)
  have hsame := hbus.sameRegisters
  exact {
    frame := operateFrame_trans hframe rfl
    st := hsame.st
    found := rfl
    desc := rfl
    lines := hlines
    sample := hsample
    sends := hsends
    fail := hsame.fail }

/-- After one VERIFY more (R178). -/
theorem afterVerify (h : Restoring s e n frames ok t) (k : Kind) :
    Restoring s e (n + 66) (frames ++ verifyFrames k (kindDefault e k)) (ok && decide (readBackAt s n = kindDefault e k))
      (afterVerify k t) := by
  obtain ⟨hst, hfound, hdesc, -, -, hfail, hlines⟩ := afterVerify_registers k t
  exact {
    frame := operateFrame_trans h.frame (operateFrame_afterVerify k t)
    st := hst.trans h.st
    found := hfound.trans h.found
    desc := hdesc.trans h.desc
    lines := by rw [hlines, h.lines]; rfl
    sample := fun j => by rw [afterVerify_sample, h.sample, Nat.add_assoc]
    sends := h.desc ▸ h.sends.trans (sendsFrames_afterVerify k t)
    fail := by rw [hfail, failAfterCompare_and h.fail, h.restores_eq] }

/-- The skip of the extended fuse, and the outcome, write nothing that this speaks of (R182, R198). -/
theorem skipExt (h : Restoring s e n frames ok t) : Restoring s e n frames ok (skipExt t) :=
  { h with frame := operateFrame_trans h.frame rfl }

theorem endOperate (h : Restoring s e n frames ok t) : Restoring s e n frames ok (endOperate t) :=
  { h with frame := operateFrame_trans h.frame rfl }

/-- The outcome on a matched device is whether all three flags are set (R198). -/
theorem endOperate_outcome (h : Restoring s e n frames ok t) : (Machine.endOperate t).outcome = (t.okl && t.okh && t.oke) := by
  show (t.found && t.okl && t.okh && t.oke) = _
  rw [h.found, Bool.true_and]

end Restoring

/-- S7 on a matched device up to the extended fuse: MATCH, and the VERIFYs of the low and the high fuse. -/
theorem operate_of_firstMatch {s : State} {m : Nat} {e : Descriptor} (hmatch : FirstMatch s m e)
    (hlow : PollsReady s (96 * (m + 1))) (hhigh : PollsReady s (96 * (m + 1) + 66)) :
    ∃ c, operate s = operateExt c ∧
      Restoring s e (96 * (m + 1) + 132) (matchFrames (m + 1) ++ verifyFrames .low e.low ++ verifyFrames .high e.high)
        (decide (readBackAt s (96 * (m + 1)) = e.low) && decide (readBackAt s (96 * (m + 1) + 66) = e.high)) c ∧
      c.okl = decide (readBackAt s (96 * (m + 1)) = e.low) ∧ c.okh = decide (readBackAt s (96 * (m + 1) + 66) = e.high) ∧
      c.kind = .high ∧ c.wval = e.high := by
  have ha := Restoring.of_firstMatch hmatch
  have hb := ha.afterVerify .low
  have hrun : operate s = operateFound (matchDevice { s with st := .operating }) := rfl
  generalize matchDevice { s with st := .operating } = a at *
  have hoperate : operate s = operateExt (afterVerify .high (afterVerify .low a)) := by
    rw [hrun, operateFound, if_pos ha.found]
    exact (verifyInSession_ready .low (verifyInSession .high operateAfterHigh) (ha.pollsReady hlow)).trans
      (verifyInSession_ready .high operateExt (hb.pollsReady hhigh))
  obtain ⟨-, -, -, hkind, hwval, -, -⟩ := afterVerify_registers .high (afterVerify .low a)
  have hokl : (afterVerify .high (afterVerify .low a)).okl = restores .low a :=
    (afterVerify_okl_of_ne (k := .high) nofun _).trans (afterVerify_flag a).1
  have hokh : (afterVerify .high (afterVerify .low a)).okh = restores .high (afterVerify .low a) := (afterVerify_flag _).2.1
  exact ⟨_, hoperate, hb.afterVerify .high, hokl.trans (ha.restores_eq .low), hokh.trans (hb.restores_eq .high), hkind,
    hwval.trans (congrArg Descriptor.high hb.desc)⟩

theorem operateExt_of_noFuse {c : State} (hext : c.desc.ext = 0x00) : operateExt c = endOperate (skipExt c) := by
  have hfuse : hasExtFuse c.desc = false := by simp [hasExtFuse, hext]
  rw [operateExt, hfuse]
  rfl

/-- The extended fuse of a device that has one: its VERIFY, whose flag joins those of the other two. -/
theorem operateExt_of_fuse {s c : State} {e : Descriptor} {n : Nat} {frames : List (Byte × Byte)} {ok : Bool}
    (hc : Restoring s e n frames ok c) (hext : e.ext ≠ 0x00) (hready : PollsReady s n) :
    ∃ d, operateExt c = endOperate d ∧
      Restoring s e (n + 66) (frames ++ verifyFrames .ext e.ext) (ok && decide (readBackAt s n = e.ext)) d ∧
      d.okl = c.okl ∧ d.okh = c.okh ∧ d.oke = decide (readBackAt s n = e.ext) ∧ d.kind = .ext ∧ d.wval = e.ext := by
  have hfuse : hasExtFuse c.desc = true := by simpa [hasExtFuse, hc.desc] using hext
  have hrun : operateExt c = endOperate (afterVerify .ext c) := by
    rw [operateExt, if_pos hfuse]
    exact verifyInSession_ready .ext endOperate (hc.pollsReady hready)
  obtain ⟨-, -, -, hkind, hwval, -, -⟩ := afterVerify_registers .ext c
  obtain ⟨-, -, hoke⟩ := afterVerify_flag c
  exact ⟨_, hrun, hc.afterVerify .ext, afterVerify_okl_of_ne (k := .ext) nofun c, afterVerify_okh_of_ne (k := .ext) nofun c,
    hoke.trans (hc.restores_eq .ext), hkind, hwval.trans (congrArg Descriptor.ext hc.desc)⟩

theorem exec_s7_of_readable {s : State} (hr : Readable s) : exec .s7 s = .next (operate s) := readingIfScanned_readable operate s hr

/-- Settles O41: the third kind is skipped, so the outcome rests on the first two. -/
theorem operateRestoresTwoFuses : Obligations.OperateRestoresTwoFuses := by
  intro s m e hr hmatch hext hlow hhigh
  obtain ⟨c, hrun, hc, hokl, hokh, hkind, hwval⟩ := operate_of_firstMatch hmatch hlow hhigh
  have hskip := operateExt_of_noFuse (hc.desc ▸ hext)
  have ht := hc.skipExt.endOperate
  obtain ⟨es, hadd, hsends⟩ := ht.sends.sends
  refine ⟨endOperate (skipExt c), es, ?_, ht.frame, ht.st, rfl, ht.found, ht.desc, hokl, hokh, rfl, ?_, ?_, hkind, hwval, ht.lines,
    hadd, hsends⟩
  · rw [exec_s7_of_readable hr, hrun, hskip]
  · exact hc.skipExt.endOperate_outcome.trans (Bool.and_true _)
  · rw [ht.fail, ← hokl, ← hokh]
    rfl

/-- Settles O42: the third VERIFY runs whatever the first two have read back. -/
theorem operateRestoresThreeFuses : Obligations.OperateRestoresThreeFuses := by
  intro s m e hr hmatch hext hlow hhigh hready
  obtain ⟨c, hrun, hc, hokl, hokh, -, -⟩ := operate_of_firstMatch hmatch hlow hhigh
  obtain ⟨d, hrun', hd, hokl', hokh', hoke, hkind, hwval⟩ := operateExt_of_fuse hc hext hready
  have ht := hd.endOperate
  obtain ⟨es, hadd, hsends⟩ := ht.sends.sends
  refine ⟨endOperate d, es, ?_, ht.frame, ht.st, rfl, ht.found, ht.desc, hokl'.trans hokl, hokh'.trans hokh, hoke,
    hd.endOperate_outcome, ?_, hkind, hwval, ht.lines, hadd, hsends⟩
  · rw [exec_s7_of_readable hr, hrun, hrun']
  · rw [ht.fail, ← hokl, ← hokh, ← hokl', ← hokh', ← hoke]
    rfl

end Sys2Proof.Proofs
end

section
/-! PROOF. The session steps as operations (spec/43_session.md R190 to R200): each runs its few statements, written out in the rule, and
goes on to the step that follows. -/

namespace Sys2Proof.Proofs

open Sys2Proof.Machine Sys2Proof.Safety Sys2Proof.Claims Sys2Proof.Laws

/-- A session step other than S7 is its statements, and on to the next step. -/
theorem runSession_eq (p next : SessionStep) (s : State) :
    runSession p next s = .next (goTo next (perform (sessionCode s.params p) s)) := rfl

theorem execStart_of_idle {s : State} (h : s.st = .idle) :
    execStart s = .next (goTo .s1 { emit .start s with done := false, fail := .none }) := by
  rw [execStart, h]

theorem execStart_of_running {s : State} (h : s.st ≠ .idle) : execStart s = .next s := by
  unfold execStart
  split
  · exact absurd ‹_› h
  all_goals rfl

/-- Settles O34: START looks at `ST` alone. -/
theorem startBeginsSessionOnlyInIdle : Obligations.StartBeginsSessionOnlyInIdle :=
  ⟨fun _ h => execStart_of_idle h, fun _ h => execStart_of_running h⟩

/-- Settles O35: the one grouped write gives each of the twelve bits a value, so it does not matter what they were. -/
theorem firstStepSetsEveryLine : Obligations.FirstStepSetsEveryLine :=
  fun _ => ⟨[.setGroup allOutputs restLevels], rfl, rfl, rfl⟩

/-- Settles O36: the one write of `VCC`. -/
theorem secondStepAppliesSupply : Obligations.SecondStepAppliesSupply := fun s => runSession_eq .s2 .s3 s

/-- Settles O37: the statements of each of the four steps. -/
theorem modeEntrySteps : Obligations.ModeEntrySteps := fun s =>
  ⟨runSession_eq .s3 .s4 s, runSession_eq .s4 .s5 s, runSession_eq .s5 .s6 s, runSession_eq .s6 .s7 s⟩

/-- Settles O38: the four line events of the teardown, in its order. -/
theorem teardownStep : Obligations.TeardownStep := fun s => runSession_eq .s8 .s9 s

/-- Settles O39: `DONE` is set with the outcome unchanged, so the outcome may be read. -/
theorem lastStepPublishesOutcome : Obligations.LastStepPublishesOutcome :=
  fun s => ⟨_, runSession_eq .s9 .idle s, rfl, rfl⟩

end Sys2Proof.Proofs
end

section
/-! PROOF. `ST` and the samples of SDO in one step (spec/43_session.md R196, R201, spec/70_reset_and_hazards.md R261): only the statements
of the session steps change `ST`, and none of those samples. -/

namespace Sys2Proof.Proofs

open Sys2Proof.Machine Sys2Proof.Safety Sys2Proof.Claims Sys2Proof.Laws

/-! ### What a step samples -/

/-- No sample was taken from `s` to `t`. -/
def NoSample (s t : State) : Prop := ∃ es, Added s t es ∧ noSample es

namespace NoSample

theorem of_noEvent {s t : State} (h : t.trace = s.trace) : NoSample s t := ⟨[], h, fun _ he => nomatch he⟩

theorem of_oneEvent (e : Event) {s t : State} (h : t.trace = e :: s.trace) (he : isSample e = false) : NoSample s t :=
  ⟨[e], h, fun _ hmem => List.mem_singleton.mp hmem ▸ he⟩

theorem act {c : Stmt} (h : isSessionStmt c = true) (s : State) : NoSample s (c.act s) := by
  cases c with
  | level | direction | group | wait | publish => exact of_oneEvent _ rfl rfl
  | state | clearFound | firstEntry => exact of_noEvent rfl
  | _ => cases h

/-- The events added are fixed by the two traces. -/
theorem of_added {s t : State} {es : List Event} (h : NoSample s t) (hadd : Added s t es) : noSample es := by
  obtain ⟨fs, hadd', hno⟩ := h
  have hes : es = fs := List.reverse_injective (List.append_cancel_right (hadd.symm.trans hadd'))
  exact hes ▸ hno

end NoSample

/-- A step runs a statement of a session step; or it leaves `ST` as it is, and samples only in Operating. -/
theorem step_own_or_rests {s t : State} (hinv : EngineInv s) (h : step s = .next t) :
    (∃ p n c q, InStep s p n ∧ (sessionCode s.params p)[n]? = some c ∧ t = moveTo q (c.act s)) ∨
    (t.st = s.st ∧ (NoSample s t ∨ s.st = .operating)) := by
  have hpoll : (pollSample s).st = s.st := (SameRegisters.of_pollSample s).st
  cases step_cases h with
  | look _ ht | pastEnd _ _ _ _ ht => exact .inr ⟨ht ▸ rfl, .inl (ht ▸ .of_noEvent rfl)⟩
  | start _ ht => exact .inr ⟨ht ▸ rfl, .inl (ht ▸ .of_oneEvent .start rfl rfl)⟩
  | statement g n c hat hc ht =>
    obtain ⟨p, rfl⟩ | hg := own_or_work g
    · exact .inl ⟨p, n, c, _, inStep_of_engineInv hinv hat, hc, ht⟩
    · have hstmt := List.all_eq_true.mp (stageCode_isWorkStmt _ _ g hg) c (List.mem_of_getElem? hc)
      exact .inr ⟨ht ▸ (act_st_done hstmt s).1, .inr (st_of_within hinv hg (within_of_statementAt hg hat))⟩
  | sample _ _ _ hq _ ht => exact .inr ⟨ht ▸ hpoll, .inr (atRest_of_poll hinv hq).1⟩
  | surrender _ _ hq ht => exact .inr ⟨ht ▸ (raise_st _ _).trans hpoll, .inr (atRest_of_poll hinv hq).1⟩
  | frame _ _ _ _ hq ht => exact .inr ⟨ht ▸ rfl, .inr (hinv.state.trans (by rw [hq]; rfl))⟩

theorem isSessionStmt_of_getElem? {p : Params} {q : SessionStep} {n : Nat} {c : Stmt} (hc : (sessionCode p q)[n]? = some c) :
    isSessionStmt c = true :=
  List.all_eq_true.mp (sessionCode_isSessionStmt p q) c (List.mem_of_getElem? hc)

/-- Settles O58: a statement of a session step samples nothing, and any other step that samples starts and ends in Operating. -/
theorem samplesOnlyWhileOperating : Obligations.SamplesOnlyWhileOperating := by
  intro s t es hinv h hadd hst
  obtain ⟨p, n, c, q, -, hc, rfl⟩ | ⟨hrest, hno | hs⟩ := step_own_or_rests hinv h
  · exact (NoSample.act (isSessionStmt_of_getElem? hc) s).of_added hadd
  · exact hno.of_added hadd
  · exact absurd hst (by simp [hrest, hs])

/-! ### The session state -/

/-- `ST` after a statement of a session step. -/
def stateAfter (v : SessionState) : Stmt → SessionState
  | .state w => w
  | _ => v

theorem act_st {c : Stmt} (h : isSessionStmt c = true) (s : State) : (c.act s).st = stateAfter s.st c := by
  cases c with
  | level | direction | group | wait | publish | state | clearFound | firstEntry => rfl
  | _ => cases h

/-- Each statement of each session step takes `ST` from the state of its position along the cycle, or leaves it (R201). -/
theorem sessionCode_stTransitions (p : Params) (q : SessionStep) :
    (sessionCode p q).zipIdx.all (fun (c, n) => decide ((stepState q n, stateAfter (stepState q n) c) ∈ stTransitions)) = true := by
  cases q <;> rfl

/-- Settles O57: a step leaves `ST` as it is, or runs a statement of a session step, which keeps to the cycle. -/
theorem sessionStateFollowsTable : Obligations.SessionStateFollowsTable := by
  intro s t hinv h
  obtain ⟨p, n, c, q, hat, hc, rfl⟩ | ⟨hrest, -⟩ := step_own_or_rests hinv h
  · have hmove := List.all_eq_true.mp (sessionCode_stTransitions s.params p) (c, n) (List.mem_zipIdx_iff_getElem?.mpr hc)
    rw [moveTo_st, act_st (isSessionStmt_of_getElem? hc), hat.state]
    exact of_decide_eq_true hmove
  · have rests (v : SessionState) : (v, v) ∈ stTransitions := by cases v <;> decide
    exact hrest ▸ rests s.st

end Sys2Proof.Proofs
end

section
/-! PROOF. S7 that finds no device, and S7 that stops in one of its VERIFYs (spec/43_session.md R197, R198, spec/40_bit_and_frame.md R134):
against MATCH and the VERIFYs as they run alone. -/

namespace Sys2Proof.Proofs

open Sys2Proof.Machine Sys2Proof.Safety Sys2Proof.Claims Sys2Proof.Laws

/-! ### No match -/

theorem operateFound_of_noMatch {a : State} (h : a.found = false) : operateFound a = endOperate (clearOks a) := by
  rw [operateFound, if_neg (by simp [h])]

/-- Settles O40: MATCH comes to the sentinel, and S7 goes on from there without a fuse frame. -/
theorem operateWithoutMatch : Obligations.OperateWithoutMatch := by
  intro s m hr h
  have hno : NoMatch { s with st := .operating } m := h
  have hmatch := matchReportsUnknownDevice { s with st := .operating } m hr hno
  have hs7 := (exec_s7_of_match hmatch).1
  rw [operateFound_of_noMatch rfl] at hs7
  exact ⟨_, _, hmatch, hs7, rfl, rfl, rfl⟩

/-! ### A VERIFY that does not end -/

/-- Both wait in the same state, each in its own POLL, or both give up. -/
theorem stopsAs_afterFirstLow (k : Kind) (second : Bool) (u : State) :
    StopsAs k (afterFirstLow (.fuseWrite .verify k second) .s7 u) (.next (afterFirstLow (.fuseWrite .operate k second) .s8 u)) := by
  unfold afterFirstLow
  split
  · exact ⟨nofun, fun _ => rfl⟩
  · refine ⟨fun second' hq => ?_, nofun⟩
    cases hq
    rfl

/-- A VERIFY that ended stands before S7, so there is no stop to compare. -/
theorem stopsAs_of_due_s7 {k : Kind} {b : State} (h : b.seq = .due .s7) (r : Result) : StopsAs k b r :=
  ⟨fun _ hq => (nomatch h.symm.trans hq), fun hq => (nomatch h.symm.trans hq)⟩

/-- The VERIFY of S7 stops where the same VERIFY run alone before S7 does, whatever would follow (R197). -/
theorem stopsAs_verifyInSession (k : Kind) (next : State → State) {s : State} (hq : s.seq = .due .s7) :
    StopsAs k (verifyAlone k (factoryValue s.desc k) s) (.next (verifyInSession k next s)) := by
  rw [verifyAlone, verifyInSession, hq]
  generalize factoryValue s.desc k = v
  cases hfirst : (beginVerify k v s).sample 32 with
  | false =>
    rw [writeFuse_firstLow _ _ _ _ _ _ hfirst, writeFuse_firstLow _ _ _ _ _ _ hfirst]
    exact stopsAs_afterFirstLow k false _
  | true =>
    cases hsecond : (beginVerify k v s).sample 41 with
    | false =>
      rw [writeFuse_secondLow _ _ _ _ _ _ hfirst hsecond, writeFuse_secondLow _ _ _ _ _ _ hfirst hsecond]
      exact stopsAs_afterFirstLow k true _
    | true =>
      rw [writeFuse_ready _ _ _ _ _ _ ⟨hfirst, hsecond⟩]
      exact stopsAs_of_due_s7 rfl _

/-- Settles O44: S7 goes on from each VERIFY as from the same VERIFY run alone, until one of them stops. -/
theorem operateWaitsWhereVerifyWaits : Obligations.OperateWaitsWhereVerifyWaits := by
  intro s a b hq ha hfound hb
  obtain ⟨hs7, haq⟩ := exec_s7_of_match ha
  rw [hq] at haq
  obtain ⟨-, hb⟩ := readingSdo_next hb
  rw [hs7, operateFound, if_pos hfound]
  refine ⟨hb ▸ stopsAs_verifyInSession .low operateAfterLow haq, fun hbq c hc => ?_⟩
  have hlow : verifyInSession .low operateAfterLow a = verifyInSession .high operateAfterHigh b :=
    verifyInSession_eq (k := .low) (verifyInSession .high operateAfterHigh) hb haq hbq
  obtain ⟨-, hc⟩ := readingSdo_next hc
  rw [← verifyAlone_desc hb haq hbq] at hc ⊢
  rw [hlow]
  refine ⟨hc ▸ stopsAs_verifyInSession .high operateAfterHigh hbq, fun hcq hext d hd => ?_⟩
  have hhigh : verifyInSession .high operateAfterHigh b = operateExt c := verifyInSession_eq (k := .high) operateExt hc hbq hcq
  rw [← verifyAlone_desc hc hbq hcq] at hext hd
  rw [exec_verifyE_of_fuse _ fun _ => hext] at hd
  obtain ⟨-, hd⟩ := readingSdo_next hd
  rw [hhigh, operateExt, if_pos (by simpa [hasExtFuse] using hext)]
  exact hd ▸ stopsAs_verifyInSession .ext operateAfterExt hcq

end Sys2Proof.Proofs
end

section
/-! PROOF. A whole session on a matched device (spec/43_session.md R201, R204, R206, spec/42_fuse.md R182 to R184), each POLL kept waiting
within its limit (spec/40_bit_and_frame.md R133, R134): the waits add samples and move nothing else. -/

namespace Sys2Proof.Proofs

open Sys2Proof.Machine Sys2Proof.Safety Sys2Proof.Claims Sys2Proof.Laws

/-! ### Frames and POLLs one after the other -/

/-- From `s` to `t` these frames are sent and `n` samples are taken, and only what frames and POLLs may write differs. -/
structure BusRun (frames : List (Byte × Byte)) (n : Nat) (s t : State) : Prop where
  keeps : BusOnly s t
  sample : ∀ j, t.sample j = s.sample (n + j)
  lines : atRest t.lines = atRest s.lines
  sends : SendsFrames frames s t

namespace BusRun

variable {fs gs : List (Byte × Byte)} {m n : Nat} {s t u : State}

theorem trans (h : BusRun fs m s t) (h' : BusRun gs n t u) : BusRun (fs ++ gs) (m + n) s u where
  keeps := h.keeps.trans h'.keeps
  sample j := by rw [h'.sample, h.sample, Nat.add_assoc]
  lines := h'.lines.trans h.lines
  sends := h.sends.trans h'.sends

theorem byteAt (h : BusRun fs n s t) (j : Nat) : byteAt t j = byteAt s (n + j) := by
  simp only [Safety.byteAt, h.sample, Nat.add_assoc]

theorem readable (h : BusRun fs n s t) (hr : Readable s) : Readable t := by
  have hdir : (atRest t.lines).dir.sdo = (atRest s.lines).dir.sdo := by rw [h.lines]
  exact hdir.trans hr

theorem of_afterFrame (d i : Byte) (s : State) : BusRun [(d, i)] 8 s (afterFrame d i s) where
  keeps := rfl
  sample := afterFrame_sample d i s
  lines := rfl
  sends := .of_afterFrame d i s

theorem of_afterFrames (l : List (Byte × Byte)) (s : State) : BusRun l (8 * l.length) s (afterFrames l s) where
  keeps := .of_afterFrames l s
  sample := afterFrames_sample l s
  lines := by
    by_cases hl : l = []
    · rw [hl]
      rfl
    · rw [afterFrames_lines hl]
      rfl
  sends := .of_afterFrames l s

theorem of_afterSample (b : Bool) (n : Nat) (s : State) : BusRun [] 1 s (afterSample b n s) where
  keeps := rfl
  sample := afterSample_sample b n s
  lines := rfl
  sends := .of_oneEvent (.readLevel .sdo b) rfl rfl rfl

/-- Writing the poll count is no frame and no sample. -/
theorem of_count (n : Nat) (s : State) : BusRun [] 0 s { s with pcnt := n } where
  keeps := rfl
  sample j := congrArg s.sample (Nat.zero_add j).symm
  lines := rfl
  sends := .of_noEvent rfl rfl

theorem of_afterLows (n : Nat) (s : State) : BusRun [] n s (afterLows n s) := by
  induction n with
  | zero =>
    rw [afterLows_zero]
    exact of_count s.pcnt s
  | succ n ih =>
    rw [← afterSample_afterLows]
    exact ih.trans (of_afterSample _ _ _)

end BusRun

/-! ### A POLL that is kept waiting -/

/-- The start of a POLL writes at most the count (R134). -/
theorem enterPoll_eq (s : State) : enterPoll s = { s with pcnt := countAfter s 0 } := by
  rw [enterPoll, pollEntry_perform, countAfter]
  split <;> rfl

/-- After a POLL that begins in `s` and is answered after `d` low samples. -/
def afterWait (d : Nat) (s : State) : State :=
  afterSample true ((afterLows d (enterPoll s)).pcnt + 1) (afterLows d (enterPoll s))

theorem BusRun.of_afterWait (d : Nat) (s : State) : BusRun [] (d + 1) s (afterWait d s) := by
  have hrest : BusRun [] (d + 1) (enterPoll s) (afterWait d s) := (of_afterLows d _).trans (of_afterSample true _ _)
  have hbegin : BusRun [] 0 s (enterPoll s) := by
    rw [enterPoll_eq]
    exact of_count _ s
  have h := hbegin.trans hrest
  rwa [Nat.zero_add] at h

/-- A POLL just begun that is answered within its limit goes on (R133, R134). -/
theorem reaches_wait (site : PollSite) (back : SessionStep) {d : Nat} {s : State} (hr : Readable s) (h : Answered s 0 d) :
    Reaches (moveTo (.polling site back) (enterPoll s)) (moveTo (Machine.afterPoll site back) (afterWait d s)) := by
  obtain ⟨hlow, hhigh, hlimit⟩ := h
  simp only [Nat.zero_add] at hlow hhigh
  have hr' : Readable (moveTo (.polling site back) (enterPoll s)) := enterPoll_readable s hr
  have hbelow (m : Nat) (hm : (enterPoll s).params.pollLimit = some m) : (enterPoll s).pcnt + d < m := by
    rw [enterPoll_eq] at hm ⊢
    have hcount : countAfter s 0 = 0 := if_neg (by simp [show s.params.pollLimit = some m from hm])
    show countAfter s 0 + d < m
    rw [hcount, Nat.zero_add]
    exact hlimit m hm
  have hwait := unansweredPollWaits d (moveTo (.polling site back) (enterPoll s)) site back hr' rfl hbelow
    fun k hk => (enterPoll_sample s k).trans (hlow k hk)
  have hsample := (afterLows_sample d (moveTo (.polling site back) (enterPoll s)) 0).trans ((enterPoll_sample s d).trans hhigh)
  exact reaches_trans ⟨d, hwait⟩ (reaches_poll_high _ site back hr' rfl hsample)

/-- The same answers, counted from another state. -/
theorem answered_shift {s t : State} {n b d : Nat} (hp : t.params = s.params) (hs : ∀ j, t.sample j = s.sample (n + j))
    (h : Answered s (n + b) d) : Answered t b d := by
  simpa only [Answered, hp, hs, Nat.add_assoc] using h

theorem verifyAnswered_shift {s t : State} {n b : Nat} {d : Nat × Nat} (hp : t.params = s.params)
    (hs : ∀ j, t.sample j = s.sample (n + j)) (h : VerifyAnswered s (n + b) d) : VerifyAnswered t b d := by
  obtain ⟨hfirst, hsecond⟩ := h
  exact ⟨answered_shift hp hs (by rwa [← Nat.add_assoc]), answered_shift hp hs (by rwa [← Nat.add_assoc, ← Nat.add_assoc])⟩

/-! ### A VERIFY of S7 whose POLLs are kept waiting -/

/-- After the write of the VERIFY of kind `k` of S7, whose two POLLs wait `d.1` and `d.2` low samples (R170, R183). -/
def afterLateWrite (k : Kind) (d : Nat × Nat) (s : State) : State :=
  afterWait d.2 (afterFrame 0x00 0x4C
    (afterWait d.1 (afterStrobe k.writeA k.writeB (kindDefault s.desc k) (withSessionVerify k s))))

/-- After that VERIFY (R178). -/
def afterLateVerify (k : Kind) (d : Nat × Nat) (s : State) : State := verified k (afterLateWrite k d s)

/-- Did the VERIFY that starts in `s` and waits `d` read back what it wrote? -/
def restoresLate (k : Kind) (d : Nat × Nat) (s : State) : Bool := decide (lateReadBack s 0 d = kindDefault s.desc k)

theorem busRun_afterStrobe (a b v : Byte) (s : State) :
    BusRun [(0x40, 0x4C), (v, 0x2C), (0x00, a), (0x00, b)] 32 s (afterStrobe a b v s) := .of_afterFrames _ s

/-- The VERIFY of kind `k`, from its first statement to where S7 goes on. -/
theorem reaches_lateVerify (k : Kind) {d : Nat × Nat} {s : State} (hr : Readable s) (h : VerifyAnswered s 0 d) :
    Reaches (moveTo (.within (.strobe k) 0) s) (moveTo (afterCompare k) (afterLateVerify k d s)) := by
  obtain ⟨hfirst, hsecond⟩ := h
  have hstrobe := busRun_afterStrobe k.writeA k.writeB (kindDefault s.desc k) (withSessionVerify k s)
  have hrun := reaches_strobe k s hr
  have hback := reaches_readBack .operate k .s8 (afterLateWrite k d s)
  unfold afterLateVerify
  unfold afterLateWrite at hback ⊢
  generalize afterStrobe k.writeA k.writeB (kindDefault s.desc k) (withSessionVerify k s) = u at *
  have hframe := (BusRun.of_afterWait d.1 u).trans (.of_afterFrame 0x00 0x4C _)
  have hru : Readable u := hstrobe.readable hr
  have hu : Answered u 0 d.1 := answered_shift hstrobe.keeps.sameRegisters.params hstrobe.sample hfirst
  have hrw : Readable (afterFrame 0x00 0x4C (afterWait d.1 u)) := hframe.readable hru
  have hw : Answered (afterFrame 0x00 0x4C (afterWait d.1 u)) 0 d.2 := by
    have hboth := hstrobe.trans hframe
    refine answered_shift hboth.keeps.sameRegisters.params hboth.sample ?_
    have hcount : 0 + 41 + d.1 = 32 + (d.1 + 1 + 8) + 0 := by omega
    exact hcount ▸ hsecond
  refine reaches_trans hrun (reaches_trans (reaches_wait _ _ hru hu) (reaches_trans (reaches_finish _ k _ _ ?_)
    (reaches_trans (reaches_wait _ _ hrw hw) (hback ?_))))
  · exact (BusRun.of_afterWait d.1 u).readable hru
  · exact (BusRun.of_afterWait d.2 _).readable hrw

/-- The write takes 42 samples and those of the waits (R170). -/
theorem busRun_afterLateWrite (k : Kind) (d : Nat × Nat) (s : State) :
    BusRun [(0x40, 0x4C), (kindDefault s.desc k, 0x2C), (0x00, k.writeA), (0x00, k.writeB), (0x00, 0x4C)] (42 + d.1 + d.2)
      (withSessionVerify k s) (afterLateWrite k d s) := by
  have h := (((busRun_afterStrobe k.writeA k.writeB (kindDefault s.desc k) (withSessionVerify k s)).trans (.of_afterWait d.1 _)).trans
    (.of_afterFrame 0x00 0x4C _)).trans (.of_afterWait d.2 _)
  have hcount : 32 + (d.1 + 1) + 8 + (d.2 + 1) = 42 + d.1 + d.2 := by omega
  exact hcount ▸ h

/-- A VERIFY writes its own registers and flag, the cause, and what frames and POLLs write. -/
theorem afterLateVerify_eq (k : Kind) (d : Nat × Nat) (s : State) :
    ∃ u, BusRun (verifyFrames k (kindDefault s.desc k)) (66 + d.1 + d.2) (withSessionVerify k s) u ∧ u.lines = atRest s.lines ∧
      afterLateVerify k d s =
        withOk k (restoresLate k d s) (withReadBack (lateReadBack s 0 d) (failAfterCompare (restoresLate k d s) s) u) := by
  have hwrite := busRun_afterLateWrite k d s
  have hsame := hwrite.keeps.sameRegisters
  have hall := hwrite.trans (.of_afterFrames [(0x04, 0x4C), (0x00, k.readA), (0x00, k.readB)] _)
  have hback : byteAt (afterLateWrite k d s) 16 = lateReadBack s 0 d :=
    (hwrite.byteAt 16).trans (congrArg (byteAt s) (show _ = 0 + 58 + d.1 + d.2 by omega))
  have hwval : (afterLateWrite k d s).wval = kindDefault s.desc k := hsame.wval
  have hcount : 42 + d.1 + d.2 + 8 * 3 = 66 + d.1 + d.2 := by omega
  refine ⟨afterRead k.readA k.readB (afterLateWrite k d s), hcount ▸ hall, ?_, ?_⟩
  · rw [afterRead, afterFrames_lines (List.cons_ne_nil _ _), hwrite.lines]
    rfl
  · rw [afterLateVerify, verified, hback, hwval, failAfterCompare_congr (s := s) hsame.fail]
    rfl

/-- Of the flags a VERIFY writes its own (R179 to R181). -/
theorem afterLateVerify_flags (k : Kind) (d : Nat × Nat) (s : State) :
    (afterLateVerify k d s).okl = (withOk k (restoresLate k d s) s).okl ∧
    (afterLateVerify k d s).okh = (withOk k (restoresLate k d s) s).okh ∧
    (afterLateVerify k d s).oke = (withOk k (restoresLate k d s) s).oke := by
  obtain ⟨u, hu, -, h⟩ := afterLateVerify_eq k d s
  have hsame := hu.keeps.sameRegisters
  rw [h]
  cases k with
  | low => exact ⟨rfl, hsame.okh, hsame.oke⟩
  | high => exact ⟨hsame.okl, rfl, hsame.oke⟩
  | ext => exact ⟨hsame.okl, hsame.okh, rfl⟩

namespace Restoring

variable {s t : State} {e : Descriptor} {n : Nat} {frames : List (Byte × Byte)} {ok : Bool}

theorem readable (h : Restoring s e n frames ok t) (hr : Readable s) : Readable t := by
  rw [Readable, h.lines]
  exact hr

theorem verifyAnswered (h : Restoring s e n frames ok t) {d : Nat × Nat} (hd : VerifyAnswered s n d) : VerifyAnswered t 0 d := by
  have hparams : t.params = s.params := by rw [h.frame]
  exact verifyAnswered_shift hparams h.sample hd

theorem restoresLate_eq (h : Restoring s e n frames ok t) (k : Kind) (d : Nat × Nat) :
    restoresLate k d t = decide (lateReadBack s n d = kindDefault e k) := by
  have hback : lateReadBack t 0 d = lateReadBack s n d := by
    simp only [lateReadBack, byteAt, h.sample, Nat.zero_add, Nat.add_assoc]
  rw [restoresLate, hback, h.desc]

/-- After one VERIFY more, however long its POLLs waited (R178). -/
theorem afterLateVerify (h : Restoring s e n frames ok t) (k : Kind) (d : Nat × Nat) :
    Restoring s e (verifyEnd n d) (frames ++ verifyFrames k (kindDefault e k))
      (ok && decide (lateReadBack s n d = kindDefault e k)) (afterLateVerify k d t) := by
  obtain ⟨u, hu, hlines, heq⟩ := afterLateVerify_eq k d t
  have hok := h.restoresLate_eq k d
  have hcause := failAfterCompare_and (ok' := decide (lateReadBack s n d = kindDefault e k)) h.fail
  have hframe : OperateFrame s u := operateFrame_trans h.frame
    (operateFrame_trans (t := withSessionVerify k t) rfl (operateFrame_of_busOnly hu.keeps))
  have hsample (j : Nat) : u.sample j = s.sample (verifyEnd n d + j) :=
    (hu.sample j).trans ((h.sample _).trans (congrArg s.sample (by simp only [verifyEnd, Nat.add_assoc])))
  have hsends : SendsFrames (frames ++ verifyFrames k (kindDefault e k)) s u :=
    h.desc ▸ h.sends.trans ((SendsFrames.of_noEvent (t := withSessionVerify k t) rfl rfl).trans hu.sends)
  have hrest : u.lines = atRest s.lines := by rw [hlines, h.lines]; rfl
  have hsame := hu.keeps.sameRegisters
  rw [heq, hok, hcause]
  cases k <;> exact {
    frame := operateFrame_trans hframe rfl
    st := hsame.st.trans h.st
    found := hsame.found.trans h.found
    desc := hsame.desc.trans h.desc
    lines := hrest
    sample := hsample
    sends := hsends
    fail := rfl }

end Restoring

/-! ### S7 -/

/-- S7 up to the end of the scan. -/
theorem reaches_testFound {s : State} (hr : Readable s) (hq : s.seq = .due .s7) :
    Reaches s (moveTo (.within .testFound 0) (matchDevice { s with st := .operating })) := by
  have hbegin : Reaches s (moveTo (.within .testEntry 0) (beginScan s)) := reaches_own .s7 s nofun hq
  exact reaches_trans hbegin (reaches_scanTable _ (beginScan s) (.inl hr) (Nat.zero_le _) (Nat.lt_succ_self _))

/-- S7 on a matched device up to the extended fuse: MATCH, and the VERIFYs of the low and the high fuse. -/
theorem reaches_testExt {s : State} {m : Nat} {e : Descriptor} {d1 d2 : Nat × Nat} (hr : Readable s) (hq : s.seq = .due .s7)
    (hmatch : FirstMatch s m e) (hlow : VerifyAnswered s (96 * (m + 1)) d1)
    (hhigh : VerifyAnswered s (verifyEnd (96 * (m + 1)) d1) d2) :
    ∃ c, Reaches s (moveTo (.within .testExt 0) c) ∧
      Restoring s e (verifyEnd (verifyEnd (96 * (m + 1)) d1) d2)
        (matchFrames (m + 1) ++ verifyFrames .low e.low ++ verifyFrames .high e.high) (c.okl && c.okh) c ∧
      c.okl = decide (lateReadBack s (96 * (m + 1)) d1 = e.low) ∧
      c.okh = decide (lateReadBack s (verifyEnd (96 * (m + 1)) d1) d2 = e.high) := by
  have ha := Restoring.of_firstMatch hmatch
  have hscan := reaches_testFound hr hq
  generalize matchDevice { s with st := .operating } = a at *
  have hb := ha.afterLateVerify .low d1
  have hc := hb.afterLateVerify .high d2
  have hfound := reaches_single (g := .testFound) (c := .test) a rfl rfl
  rw [stageExit, if_pos ha.found] at hfound
  have hrun := reaches_lateVerify .low (ha.readable hr) (ha.verifyAnswered hlow)
  have hrun' := reaches_lateVerify .high (hb.readable hr) (hb.verifyAnswered hhigh)
  obtain ⟨hokl, -, -⟩ := afterLateVerify_flags .low d1 a
  obtain ⟨hokl', hokh', -⟩ := afterLateVerify_flags .high d2 (afterLateVerify .low d1 a)
  replace hokl := (hokl'.trans hokl).trans (ha.restoresLate_eq .low d1)
  replace hokh' := hokh'.trans (hb.restoresLate_eq .high d2)
  refine ⟨_, reaches_trans hscan (reaches_trans hfound (reaches_trans hrun hrun')), ?_, hokl, hokh'⟩
  rw [hokl, hokh']
  exact hc

/-- The extended fuse, verified or skipped, and the outcome (R182, R197, R198). -/
theorem reaches_outcome {s c : State} {e : Descriptor} {n : Nat} {d : Nat × Nat} {frames : List (Byte × Byte)} (hr : Readable s)
    (hc : Restoring s e n frames (c.okl && c.okh) c) (hext : e.ext ≠ 0x00 → VerifyAnswered s n d) :
    ∃ t n', Reaches (moveTo (.within .testExt 0) c) t ∧ t.seq = .due .s8 ∧
      Restoring s e n' (frames ++ if e.ext = 0x00 then [] else verifyFrames .ext e.ext) t.outcome t ∧
      t.outcome = (c.okl && c.okh && decide (e.ext ≠ 0x00 → lateReadBack s n d = e.ext)) := by
  by_cases he : e.ext = 0x00
  · have hrun := reaches_operateExt c (hc.readable hr)
    rw [operateExt_of_noFuse (hc.desc ▸ he)] at hrun
    have hout : (endOperate (skipExt c)).outcome = (c.okl && c.okh) := hc.skipExt.endOperate_outcome.trans (Bool.and_true _)
    refine ⟨_, n, hrun, rfl, ?_, ?_⟩
    · rw [hout, if_pos he, List.append_nil]
      exact hc.skipExt.endOperate
    · simp [hout, he]
  · have hfuse : hasExtFuse c.desc = true := by simpa [hasExtFuse, hc.desc] using he
    have htest := reaches_single (g := .testExt) (c := .test) c rfl rfl
    rw [stageExit, if_pos hfuse] at htest
    have hrun := reaches_lateVerify .ext (hc.readable hr) (hc.verifyAnswered (hext he))
    have hd := hc.afterLateVerify .ext d
    obtain ⟨hokl, hokh, hoke⟩ := afterLateVerify_flags .ext d c
    replace hoke := hoke.trans (hc.restoresLate_eq .ext d)
    have hout : (endOperate (afterLateVerify .ext d c)).outcome = (c.okl && c.okh && decide (lateReadBack s n d = e.ext)) := by
      rw [hd.endOperate_outcome, hokl, hokh, hoke]
      rfl
    refine ⟨_, verifyEnd n d, reaches_trans htest (reaches_trans hrun (reaches_endOperate _)), rfl, ?_, ?_⟩
    · rw [hout, if_neg he]
      exact hd.endOperate
    · simp only [hout, ne_eq, he, not_false_eq_true, true_implies]

/-! ### The whole session -/

theorem firstMatch_congr {s t : State} {m : Nat} {e : Descriptor} (hp : t.params = s.params) (hs : ∀ k, t.sample k = s.sample k)
    (h : FirstMatch s m e) : FirstMatch t m e := by
  obtain ⟨hpassed, he, hreal, hsig⟩ := h
  refine ⟨passedOver_congr hp hs hpassed, hp ▸ he, hreal, ?_⟩
  simpa only [entrySignature, byteAt, hs] using hsig

/-- Settles O59: START and S1 to S6, MATCH and the VERIFYs through their waits, and the way down. -/
theorem restoringSessionEnds : Obligations.RestoringSessionEnds := by
  intro s m e d1 d2 d3 hinv hq hstart hmatch hlow hhigh hext
  have hidle : s.st = .idle := hinv.state.trans (by rw [hq]; rfl)
  obtain ⟨u, hup, huq, hquiet⟩ := reaches_s7 hidle hq hstart
  have hu := engineInv_of_reaches hinv hup
  have hr := readable_of_s7 hu huq
  have answered {b : Nat} {d : Nat × Nat} (h : VerifyAnswered s b d) : VerifyAnswered u b d := by
    simpa only [VerifyAnswered, Answered, hquiet.params, hquiet.sample] using h
  have hback (b : Nat) (d : Nat × Nat) : lateReadBack u b d = lateReadBack s b d := by
    simp only [lateReadBack, byteAt, hquiet.sample]
  obtain ⟨c, hverified, hc, hokl, hokh⟩ := reaches_testExt hr huq (firstMatch_congr hquiet.params hquiet.sample hmatch)
    (answered hlow) (answered hhigh)
  obtain ⟨w, n, hsettled, hwq, hw, hout⟩ := reaches_outcome hr hc fun h => answered (hext h)
  obtain ⟨t, hdown, htq, hdone, htout, htfail, hlate⟩ := reaches_end hwq
  have hreach := reaches_trans hup (reaches_trans hverified (reaches_trans hsettled hdown))
  have ht := engineInv_of_reaches hinv hreach
  have hall := (hquiet.sends.trans hw.sends).trans hlate.sends
  rw [List.nil_append, List.append_nil] at hall
  obtain ⟨es, hadd, hsends⟩ := hall.sends
  refine ⟨t, es, w.outcome, hreach, ⟨ht.state.trans (by rw [htq]; rfl), hdone⟩, htq, ht.afterSession htq hdone, hadd, hsends,
    ?_, ?_, ?_⟩
  · simp only [hout, hokl, hokh, hback, Bool.and_eq_true, decide_eq_true_eq, and_assoc]
  · rw [published, if_pos hdone, htout]
  · rw [htfail, hw.fail, failAfterCompare, failAfter, hu.noEarlyFailure (by rw [huq]; rfl)]
    rfl

end Sys2Proof.Proofs
end

section
/-! PROOF. A session that hangs, and that no session is ever refused (spec/60_exceptions.md R220, R223, R224, spec/10_state.md R41): SDO is
released wherever a session samples it, and no other statement is ever refused. -/

namespace Sys2Proof.Proofs

open Sys2Proof.Machine Sys2Proof.Safety Sys2Proof.Claims Sys2Proof.Laws

/-! ### Where SDO may be read -/

theorem readable_of_poll {s : State} {site : PollSite} {back : SessionStep} (hinv : EngineInv s) (hq : s.seq = .polling site back) :
    Readable s := by
  obtain ⟨-, hlines, -⟩ := atRest_of_poll hinv hq
  rw [Readable, hlines]
  rfl

theorem readable_of_within {s : State} {g : Stage} {n : Nat} (hinv : EngineInv s) (hg : ∀ q, g ≠ .own q) (hq : s.seq = .within g n) :
    Readable s := by
  obtain ⟨sdi, sii, hlines, -⟩ := (linesOk_within hg hq).mp hinv.lines
  rw [Readable, hlines]
  rfl

/-- A statement of a session step samples nothing, and every other statement of a session runs with SDO released (R261). -/
theorem reads_false_or_readable {s : State} {g : Stage} {n : Nat} {c : Stmt} (hinv : EngineInv s) (hat : statementAt s.seq = some (g, n))
    (hc : (stageCode s.params s.desc g)[n]? = some c) : c.reads = false ∨ Readable s := by
  obtain ⟨p, rfl⟩ | hg := own_or_work g
  · have hown := List.all_eq_true.mp (sessionCode_reads s.params p) c (List.mem_of_getElem? hc)
    simp only [Bool.and_eq_true, Bool.not_eq_true'] at hown
    exact .inl hown.1
  · exact .inr (readable_of_within hinv hg (within_of_statementAt hg hat))

/-! ### A hung session -/

/-- Settles O17: the low answers leave the run in the same POLL, where the invariant fixes `ST`, `DONE` and the lines. -/
theorem hungSessionKeepsTargetPowered : Obligations.HungSessionKeepsTargetPowered := by
  intro n s site back hinv hq hunbounded hlow
  have hrun : Host.Core.run core n s = .next (afterLows n s) :=
    unansweredPollWaits n s site back (readable_of_poll hinv hq) hq (fun m hm => nomatch hunbounded.symm.trans hm) hlow
  have hseq : (afterLows n s).seq = .polling site back := hq
  obtain ⟨hst, hlines, hdone⟩ := atRest_of_poll (engineInv_of_reaches hinv ⟨n, hrun⟩) hseq
  exact ⟨afterLows n s, hrun, ⟨⟨site, back, hseq⟩, hst, hdone, by rw [hlines]; rfl, by rw [hlines]; rfl⟩, rfl⟩

/-! ### Every step of a session has a next state -/

theorem step_of_statementAt {s : State} {g : Stage} {n : Nat} (hat : statementAt s.seq = some (g, n)) : step s = runAt g n s := by
  obtain ⟨p, hq, hp, rfl, rfl⟩ | hq := statementAt_cases hat
  · exact step_due p s hq hp
  · exact step_within g n s hq

theorem exists_step_of_statementAt {s : State} {g : Stage} {n : Nat} (hinv : EngineInv s) (hat : statementAt s.seq = some (g, n)) :
    ∃ t, step s = .next t := by
  have hc := List.getElem?_eq_getElem (lt_length_of_engineInv hinv hat)
  rw [step_of_statementAt hat, runAt, hc]
  exact ⟨_, run_allowed _ _ s (reads_false_or_readable hinv hat hc)⟩

/-- The look for Start, and a Start that is presented, are never refused (R190). -/
theorem exists_step_of_idle {s : State} (hinv : EngineInv s) (hq : s.seq = .due .idle) : ∃ t, step s = .next t := by
  have hidle : (lookForStart s).st = .idle := hinv.state.trans (by rw [hq]; rfl)
  obtain ⟨presented, absent, -, -⟩ := positionsNameOperations
  cases hstart : s.startPresented with
  | true => exact ⟨_, (presented s hq hstart).trans (execStart_of_idle hidle)⟩
  | false => exact ⟨_, absent s hq hstart⟩

/-- Settles O53: by the position. -/
theorem sessionNeverStops : Obligations.SessionNeverStops := by
  intro s hinv hplaced
  cases hq : s.seq with
  | due p =>
    by_cases hp : p = .idle
    · exact exists_step_of_idle hinv (hp ▸ hq)
    · exact exists_step_of_statementAt hinv (hq ▸ statementAt_due hp)
  | within g n => exact exists_step_of_statementAt (g := g) (n := n) hinv (by rw [hq]; rfl)
  | polling site back => exact ⟨_, (step_polling s site back hq).trans (exec_poll_of_readable (readable_of_poll hinv hq))⟩
  | placed cmd cw => exact absurd hq (hplaced cmd cw)

end Sys2Proof.Proofs
end

section
/-! PROOF. Nothing reads SDO while the engine drives it (spec/70_reset_and_hazards.md R261, spec/92_eei_decisions.md D18): every operation
that samples the line is `readingSdo` of its meaning, and that is refused. -/

namespace Sys2Proof.Proofs

open Sys2Proof.Machine Sys2Proof.Safety Sys2Proof.Claims Sys2Proof.Laws

theorem readingSdo_driven (f : State → State) {s : State} (h : s.lines.dir.sdo = .output) : readingSdo f s = .refused .sdoDriven := by
  rw [readingSdo, h]

/-- An operation within its contract that is one frame reads SDO, whatever the lines are (R95, R131). -/
theorem exec_frame_eq_readingSdo {i : Instr} {d ins : Byte} (hb : frameBytes i = some (d, ins)) (hwf : i.wellFormed = true) (s : State) :
    exec i s = readingSdo (xfer d ins) s := by
  cases i with
  | ldaddr n =>
    cases hb
    exact if_pos (of_decide_eq_true hwf)
  | ldcmdSig | sigsetup | sigread | ldcmdWf | lddata | wfLA | wfLB | wfHA | wfHB | wfEA | wfEB | ldcmdNop | ldcmdRf
  | rfLA | rfLB | rfHA | rfHB | rfEA | rfEB | xfer =>
    cases hb
    rfl
  | _ => cases hb

/-- MATCH sends frames when the table's first entry is real (R151). -/
theorem scanReads_of_real {s : State} {e : Descriptor} (hfirst : s.params.deviceTable[0]? = some e) (hreal : e.sig ≠ Signature.sentinel) :
    scanReads s = true := by
  rw [scanReads, tableRead, hfirst]
  exact bne_iff_ne.mpr hreal

theorem readingIfScanned_driven (f : State → State) {s : State} (h : s.lines.dir.sdo = .output) (hscan : scanReads s = true) :
    readingIfScanned f s = .refused .sdoDriven := by
  rw [readingIfScanned, hscan]
  exact readingSdo_driven f h

/-- Settles O13: each operation is `readingSdo` of its meaning, under the condition that makes it send a frame. -/
theorem readsRefusedWhileDriven : Obligations.ReadsRefusedWhileDriven := by
  intro s h
  have refused (f : State → State) : readingSdo f s = .refused .sdoDriven := readingSdo_driven f h
  refine ⟨fun i hframe hwf => ?_, refused _, fun n hn => (if_pos hn).trans (refused _), fun v => ?_, refused _, refused _, refused _,
    fun e hfirst hreal => ?_⟩
  · obtain ⟨⟨d, ins⟩, hb⟩ := Option.isSome_iff_exists.mp hframe
    exact (exec_frame_eq_readingSdo hb hwf s).trans (refused _)
  · exact ⟨refused _, refused _, refused _, refused _, refused _, fun hfuse => (exec_verifyE_of_fuse v hfuse).trans (refused _)⟩
  · have hscan : scanReads s = true := scanReads_of_real hfirst hreal
    exact ⟨readingIfScanned_driven matchDevice h hscan, readingIfScanned_driven operate h hscan⟩

end Sys2Proof.Proofs
end
